-- ==== Sys2Proof/Word.lean ====
section
/-! DEFINITION. The word types of the u6502 core (spec 00 R6): bytes for A, X, Y, S, P and memory cells, 16-bit words for PC and addresses. -/

namespace Sys2Proof

/-- An 8-bit register, operand or memory cell (00 R6). -/
abbrev Byte := BitVec 8

/-- A 16-bit program counter or Bus address (00 R6, 20 R40). -/
abbrev Addr := BitVec 16

end Sys2Proof
end

