-- ==== Sys2Proof/Config.lean ====
section
/-! DEFINITION. What is fixed for the machine, the named parameters of spec 00 R7, and the free values of spec 93 (constants with no body, so that no proof can see what they are). -/

namespace Sys2Proof

/-- The model's arguments of 00 R7. They stand in State and no step changes them, so a statement about every state is a
statement about every value of them (DESIGN CHOICE, log entry 4). -/
structure Params where
  /-- JMP_IND_PAGE_WRAP (OPEN): JMP (ind) with the pointer at xxFF takes its high byte from the same page (41 R112, D20). -/
  jmpIndPageWrap : Bool
  /-- BRK_ZERO_HOOK: BRK with a zero IRQ vector consults the call hook first (45 R193, D9). -/
  brkZeroHook : Bool
  /-- STRICT_STACK: the stricter stack mode; with true every entry point is refused (40 R87, D16). -/
  strictStack : Bool
  deriving DecidableEq, Repr

namespace Config

/-- JMP_IND_PAGE_WRAP of this machine: OPEN, so a constant with no body (00 R7, D20; log entry 4). -/
opaque jmpIndPageWrap : Bool

/-- DECIMAL_ENABLED: "always true for this core" (00 R7, D19). -/
def decimalEnabled : Bool := true

/-- The parameters at State.reset: the defaults of 00 R7, and no value where it is OPEN. -/
def params : Params :=
  ⟨jmpIndPageWrap, true, false⟩

/-- What an address that the memory does not list reads as: the reference Bus is "a zeroed array" (70 R274; DEDUCED, log entry 5). -/
def blankByte : Byte := 0#8

/-- The n-th free byte drawn: a register after a reset() call (93 U14), a host answer past the queue (93 U11). Log entries 2, 6. -/
opaque freeByte : Nat → Byte

/-- The n-th free bit drawn: a flag after a reset() call (93 U14), bit 4 of P (93 U15). Log entries 2, 3. -/
opaque freeBit : Nat → Bool

end Config

end Sys2Proof
end

