-- ==== Sys2Proof/Syntax.lean ====
section
/-! DEFINITION. The instruction set as syntax: the 56 mnemonics, the 14 addressing modes and the 151 rows of spec 30 R64/R66 (opcode_table.json), one constructor a row. -/

namespace Sys2Proof

/-- The 56 documented mnemonics (30 R66). -/
inductive Mnemonic where
  | lda | ldx | ldy | sta | stx | sty | tax | tay
  | txa | tya | tsx | txs | adc | sbc | and | ora
  | eor | bit | cmp | cpx | cpy | inc | dec | inx
  | iny | dex | dey | asl | lsr | rol | ror | bcc
  | bcs | beq | bmi | bne | bpl | bvc | bvs | jmp
  | jsr | rts | rti | brk | pha | php | pla | plp
  | clc | cld | cli | clv | sec | sed | sei | nop
  deriving DecidableEq, Repr

/-- The 14 addressing modes (30 R61). -/
inductive AddrMode where
  | imm | zp | zpX | zpY | abs | absX | absY | ind | indX | indY | rel | acc | imp | stack
  deriving DecidableEq, Repr

/-- How many operand bytes follow the opcode in a mode (30 R60, R61). -/
def AddrMode.operandBytes : AddrMode → Nat
  | .imp | .acc | .stack => 0
  | .imm | .zp | .zpX | .zpY | .indX | .indY | .rel => 1
  | .abs | .absX | .absY | .ind => 2

/-- An instruction with its operands: one constructor per row of the opcode table. A `Byte` operand is byte 1 (30 R61); an
`Addr` operand is bytes 2:1, little-endian (30 R62). -/
inductive Instr where
  -- 42 R120-R131: loads, stores, register transfers
  | ldaImm (m : Byte) | ldaZp (zp : Byte) | ldaZpX (zp : Byte) | ldaAbs (addr : Addr) | ldaAbsX (addr : Addr) | ldaAbsY (addr : Addr) | ldaIndX (zp : Byte) | ldaIndY (zp : Byte)
  | ldxImm (m : Byte) | ldxZp (zp : Byte) | ldxZpY (zp : Byte) | ldxAbs (addr : Addr) | ldxAbsY (addr : Addr)
  | ldyImm (m : Byte) | ldyZp (zp : Byte) | ldyZpX (zp : Byte) | ldyAbs (addr : Addr) | ldyAbsX (addr : Addr)
  | staZp (zp : Byte) | staZpX (zp : Byte) | staAbs (addr : Addr) | staAbsX (addr : Addr) | staAbsY (addr : Addr) | staIndX (zp : Byte) | staIndY (zp : Byte)
  | stxZp (zp : Byte) | stxZpY (zp : Byte) | stxAbs (addr : Addr)
  | styZp (zp : Byte) | styZpX (zp : Byte) | styAbs (addr : Addr)
  | tax
  | tay
  | txa
  | tya
  | tsx
  | txs
  -- 43 R146-R160: arithmetic, logic, compare, increment
  | adcImm (m : Byte) | adcZp (zp : Byte) | adcZpX (zp : Byte) | adcAbs (addr : Addr) | adcAbsX (addr : Addr) | adcAbsY (addr : Addr) | adcIndX (zp : Byte) | adcIndY (zp : Byte)
  | sbcImm (m : Byte) | sbcZp (zp : Byte) | sbcZpX (zp : Byte) | sbcAbs (addr : Addr) | sbcAbsX (addr : Addr) | sbcAbsY (addr : Addr) | sbcIndX (zp : Byte) | sbcIndY (zp : Byte)
  | andImm (m : Byte) | andZp (zp : Byte) | andZpX (zp : Byte) | andAbs (addr : Addr) | andAbsX (addr : Addr) | andAbsY (addr : Addr) | andIndX (zp : Byte) | andIndY (zp : Byte)
  | oraImm (m : Byte) | oraZp (zp : Byte) | oraZpX (zp : Byte) | oraAbs (addr : Addr) | oraAbsX (addr : Addr) | oraAbsY (addr : Addr) | oraIndX (zp : Byte) | oraIndY (zp : Byte)
  | eorImm (m : Byte) | eorZp (zp : Byte) | eorZpX (zp : Byte) | eorAbs (addr : Addr) | eorAbsX (addr : Addr) | eorAbsY (addr : Addr) | eorIndX (zp : Byte) | eorIndY (zp : Byte)
  | bitZp (zp : Byte) | bitAbs (addr : Addr)
  | cmpImm (m : Byte) | cmpZp (zp : Byte) | cmpZpX (zp : Byte) | cmpAbs (addr : Addr) | cmpAbsX (addr : Addr) | cmpAbsY (addr : Addr) | cmpIndX (zp : Byte) | cmpIndY (zp : Byte)
  | cpxImm (m : Byte) | cpxZp (zp : Byte) | cpxAbs (addr : Addr)
  | cpyImm (m : Byte) | cpyZp (zp : Byte) | cpyAbs (addr : Addr)
  | incZp (zp : Byte) | incZpX (zp : Byte) | incAbs (addr : Addr) | incAbsX (addr : Addr)
  | decZp (zp : Byte) | decZpX (zp : Byte) | decAbs (addr : Addr) | decAbsX (addr : Addr)
  | inx
  | iny
  | dex
  | dey
  -- 44 R171-R174: shifts and rotates
  | aslZp (zp : Byte) | aslZpX (zp : Byte) | aslAbs (addr : Addr) | aslAbsX (addr : Addr) | aslAcc
  | lsrZp (zp : Byte) | lsrZpX (zp : Byte) | lsrAbs (addr : Addr) | lsrAbsX (addr : Addr) | lsrAcc
  | rolZp (zp : Byte) | rolZpX (zp : Byte) | rolAbs (addr : Addr) | rolAbsX (addr : Addr) | rolAcc
  | rorZp (zp : Byte) | rorZpX (zp : Byte) | rorAbs (addr : Addr) | rorAbsX (addr : Addr) | rorAcc
  -- 45 R181-R193: control transfer
  | bcc (rel : Byte)
  | bcs (rel : Byte)
  | beq (rel : Byte)
  | bmi (rel : Byte)
  | bne (rel : Byte)
  | bpl (rel : Byte)
  | bvc (rel : Byte)
  | bvs (rel : Byte)
  | jmpAbs (addr : Addr) | jmpInd (addr : Addr)
  | jsr (addr : Addr)
  | rts
  | rti
  | brk
  -- 46 R200-R211: stack, flags, no operation
  | pha
  | php
  | pla
  | plp
  | clc
  | cld
  | cli
  | clv
  | sec
  | sed
  | sei
  | nop
  deriving DecidableEq, Repr

/-- The row of the table an instruction is: its mnemonic and its mode (30 R66). -/
def Instr.shape : Instr → Mnemonic × AddrMode
  | .ldaImm _ => (.lda, .imm)
  | .ldaZp _ => (.lda, .zp)
  | .ldaZpX _ => (.lda, .zpX)
  | .ldaAbs _ => (.lda, .abs)
  | .ldaAbsX _ => (.lda, .absX)
  | .ldaAbsY _ => (.lda, .absY)
  | .ldaIndX _ => (.lda, .indX)
  | .ldaIndY _ => (.lda, .indY)
  | .ldxImm _ => (.ldx, .imm)
  | .ldxZp _ => (.ldx, .zp)
  | .ldxZpY _ => (.ldx, .zpY)
  | .ldxAbs _ => (.ldx, .abs)
  | .ldxAbsY _ => (.ldx, .absY)
  | .ldyImm _ => (.ldy, .imm)
  | .ldyZp _ => (.ldy, .zp)
  | .ldyZpX _ => (.ldy, .zpX)
  | .ldyAbs _ => (.ldy, .abs)
  | .ldyAbsX _ => (.ldy, .absX)
  | .staZp _ => (.sta, .zp)
  | .staZpX _ => (.sta, .zpX)
  | .staAbs _ => (.sta, .abs)
  | .staAbsX _ => (.sta, .absX)
  | .staAbsY _ => (.sta, .absY)
  | .staIndX _ => (.sta, .indX)
  | .staIndY _ => (.sta, .indY)
  | .stxZp _ => (.stx, .zp)
  | .stxZpY _ => (.stx, .zpY)
  | .stxAbs _ => (.stx, .abs)
  | .styZp _ => (.sty, .zp)
  | .styZpX _ => (.sty, .zpX)
  | .styAbs _ => (.sty, .abs)
  | .tax => (.tax, .imp)
  | .tay => (.tay, .imp)
  | .txa => (.txa, .imp)
  | .tya => (.tya, .imp)
  | .tsx => (.tsx, .imp)
  | .txs => (.txs, .imp)
  | .adcImm _ => (.adc, .imm)
  | .adcZp _ => (.adc, .zp)
  | .adcZpX _ => (.adc, .zpX)
  | .adcAbs _ => (.adc, .abs)
  | .adcAbsX _ => (.adc, .absX)
  | .adcAbsY _ => (.adc, .absY)
  | .adcIndX _ => (.adc, .indX)
  | .adcIndY _ => (.adc, .indY)
  | .sbcImm _ => (.sbc, .imm)
  | .sbcZp _ => (.sbc, .zp)
  | .sbcZpX _ => (.sbc, .zpX)
  | .sbcAbs _ => (.sbc, .abs)
  | .sbcAbsX _ => (.sbc, .absX)
  | .sbcAbsY _ => (.sbc, .absY)
  | .sbcIndX _ => (.sbc, .indX)
  | .sbcIndY _ => (.sbc, .indY)
  | .andImm _ => (.and, .imm)
  | .andZp _ => (.and, .zp)
  | .andZpX _ => (.and, .zpX)
  | .andAbs _ => (.and, .abs)
  | .andAbsX _ => (.and, .absX)
  | .andAbsY _ => (.and, .absY)
  | .andIndX _ => (.and, .indX)
  | .andIndY _ => (.and, .indY)
  | .oraImm _ => (.ora, .imm)
  | .oraZp _ => (.ora, .zp)
  | .oraZpX _ => (.ora, .zpX)
  | .oraAbs _ => (.ora, .abs)
  | .oraAbsX _ => (.ora, .absX)
  | .oraAbsY _ => (.ora, .absY)
  | .oraIndX _ => (.ora, .indX)
  | .oraIndY _ => (.ora, .indY)
  | .eorImm _ => (.eor, .imm)
  | .eorZp _ => (.eor, .zp)
  | .eorZpX _ => (.eor, .zpX)
  | .eorAbs _ => (.eor, .abs)
  | .eorAbsX _ => (.eor, .absX)
  | .eorAbsY _ => (.eor, .absY)
  | .eorIndX _ => (.eor, .indX)
  | .eorIndY _ => (.eor, .indY)
  | .bitZp _ => (.bit, .zp)
  | .bitAbs _ => (.bit, .abs)
  | .cmpImm _ => (.cmp, .imm)
  | .cmpZp _ => (.cmp, .zp)
  | .cmpZpX _ => (.cmp, .zpX)
  | .cmpAbs _ => (.cmp, .abs)
  | .cmpAbsX _ => (.cmp, .absX)
  | .cmpAbsY _ => (.cmp, .absY)
  | .cmpIndX _ => (.cmp, .indX)
  | .cmpIndY _ => (.cmp, .indY)
  | .cpxImm _ => (.cpx, .imm)
  | .cpxZp _ => (.cpx, .zp)
  | .cpxAbs _ => (.cpx, .abs)
  | .cpyImm _ => (.cpy, .imm)
  | .cpyZp _ => (.cpy, .zp)
  | .cpyAbs _ => (.cpy, .abs)
  | .incZp _ => (.inc, .zp)
  | .incZpX _ => (.inc, .zpX)
  | .incAbs _ => (.inc, .abs)
  | .incAbsX _ => (.inc, .absX)
  | .decZp _ => (.dec, .zp)
  | .decZpX _ => (.dec, .zpX)
  | .decAbs _ => (.dec, .abs)
  | .decAbsX _ => (.dec, .absX)
  | .inx => (.inx, .imp)
  | .iny => (.iny, .imp)
  | .dex => (.dex, .imp)
  | .dey => (.dey, .imp)
  | .aslZp _ => (.asl, .zp)
  | .aslZpX _ => (.asl, .zpX)
  | .aslAbs _ => (.asl, .abs)
  | .aslAbsX _ => (.asl, .absX)
  | .aslAcc => (.asl, .acc)
  | .lsrZp _ => (.lsr, .zp)
  | .lsrZpX _ => (.lsr, .zpX)
  | .lsrAbs _ => (.lsr, .abs)
  | .lsrAbsX _ => (.lsr, .absX)
  | .lsrAcc => (.lsr, .acc)
  | .rolZp _ => (.rol, .zp)
  | .rolZpX _ => (.rol, .zpX)
  | .rolAbs _ => (.rol, .abs)
  | .rolAbsX _ => (.rol, .absX)
  | .rolAcc => (.rol, .acc)
  | .rorZp _ => (.ror, .zp)
  | .rorZpX _ => (.ror, .zpX)
  | .rorAbs _ => (.ror, .abs)
  | .rorAbsX _ => (.ror, .absX)
  | .rorAcc => (.ror, .acc)
  | .bcc _ => (.bcc, .rel)
  | .bcs _ => (.bcs, .rel)
  | .beq _ => (.beq, .rel)
  | .bmi _ => (.bmi, .rel)
  | .bne _ => (.bne, .rel)
  | .bpl _ => (.bpl, .rel)
  | .bvc _ => (.bvc, .rel)
  | .bvs _ => (.bvs, .rel)
  | .jmpAbs _ => (.jmp, .abs)
  | .jmpInd _ => (.jmp, .ind)
  | .jsr _ => (.jsr, .abs)
  | .rts => (.rts, .stack)
  | .rti => (.rti, .stack)
  | .brk => (.brk, .stack)
  | .pha => (.pha, .stack)
  | .php => (.php, .stack)
  | .pla => (.pla, .stack)
  | .plp => (.plp, .stack)
  | .clc => (.clc, .imp)
  | .cld => (.cld, .imp)
  | .cli => (.cli, .imp)
  | .clv => (.clv, .imp)
  | .sec => (.sec, .imp)
  | .sed => (.sed, .imp)
  | .sei => (.sei, .imp)
  | .nop => (.nop, .imp)

/-- An instruction's mnemonic. -/
def Instr.mnemonic (i : Instr) : Mnemonic := i.shape.1

/-- An instruction's addressing mode. -/
def Instr.mode (i : Instr) : AddrMode := i.shape.2

/-- An instruction's operand as a number: 0 where the mode has none. -/
def Instr.operand : Instr → Nat
  | .ldaImm v => v.toNat
  | .ldaZp v => v.toNat
  | .ldaZpX v => v.toNat
  | .ldaAbs v => v.toNat
  | .ldaAbsX v => v.toNat
  | .ldaAbsY v => v.toNat
  | .ldaIndX v => v.toNat
  | .ldaIndY v => v.toNat
  | .ldxImm v => v.toNat
  | .ldxZp v => v.toNat
  | .ldxZpY v => v.toNat
  | .ldxAbs v => v.toNat
  | .ldxAbsY v => v.toNat
  | .ldyImm v => v.toNat
  | .ldyZp v => v.toNat
  | .ldyZpX v => v.toNat
  | .ldyAbs v => v.toNat
  | .ldyAbsX v => v.toNat
  | .staZp v => v.toNat
  | .staZpX v => v.toNat
  | .staAbs v => v.toNat
  | .staAbsX v => v.toNat
  | .staAbsY v => v.toNat
  | .staIndX v => v.toNat
  | .staIndY v => v.toNat
  | .stxZp v => v.toNat
  | .stxZpY v => v.toNat
  | .stxAbs v => v.toNat
  | .styZp v => v.toNat
  | .styZpX v => v.toNat
  | .styAbs v => v.toNat
  | .tax => 0
  | .tay => 0
  | .txa => 0
  | .tya => 0
  | .tsx => 0
  | .txs => 0
  | .adcImm v => v.toNat
  | .adcZp v => v.toNat
  | .adcZpX v => v.toNat
  | .adcAbs v => v.toNat
  | .adcAbsX v => v.toNat
  | .adcAbsY v => v.toNat
  | .adcIndX v => v.toNat
  | .adcIndY v => v.toNat
  | .sbcImm v => v.toNat
  | .sbcZp v => v.toNat
  | .sbcZpX v => v.toNat
  | .sbcAbs v => v.toNat
  | .sbcAbsX v => v.toNat
  | .sbcAbsY v => v.toNat
  | .sbcIndX v => v.toNat
  | .sbcIndY v => v.toNat
  | .andImm v => v.toNat
  | .andZp v => v.toNat
  | .andZpX v => v.toNat
  | .andAbs v => v.toNat
  | .andAbsX v => v.toNat
  | .andAbsY v => v.toNat
  | .andIndX v => v.toNat
  | .andIndY v => v.toNat
  | .oraImm v => v.toNat
  | .oraZp v => v.toNat
  | .oraZpX v => v.toNat
  | .oraAbs v => v.toNat
  | .oraAbsX v => v.toNat
  | .oraAbsY v => v.toNat
  | .oraIndX v => v.toNat
  | .oraIndY v => v.toNat
  | .eorImm v => v.toNat
  | .eorZp v => v.toNat
  | .eorZpX v => v.toNat
  | .eorAbs v => v.toNat
  | .eorAbsX v => v.toNat
  | .eorAbsY v => v.toNat
  | .eorIndX v => v.toNat
  | .eorIndY v => v.toNat
  | .bitZp v => v.toNat
  | .bitAbs v => v.toNat
  | .cmpImm v => v.toNat
  | .cmpZp v => v.toNat
  | .cmpZpX v => v.toNat
  | .cmpAbs v => v.toNat
  | .cmpAbsX v => v.toNat
  | .cmpAbsY v => v.toNat
  | .cmpIndX v => v.toNat
  | .cmpIndY v => v.toNat
  | .cpxImm v => v.toNat
  | .cpxZp v => v.toNat
  | .cpxAbs v => v.toNat
  | .cpyImm v => v.toNat
  | .cpyZp v => v.toNat
  | .cpyAbs v => v.toNat
  | .incZp v => v.toNat
  | .incZpX v => v.toNat
  | .incAbs v => v.toNat
  | .incAbsX v => v.toNat
  | .decZp v => v.toNat
  | .decZpX v => v.toNat
  | .decAbs v => v.toNat
  | .decAbsX v => v.toNat
  | .inx => 0
  | .iny => 0
  | .dex => 0
  | .dey => 0
  | .aslZp v => v.toNat
  | .aslZpX v => v.toNat
  | .aslAbs v => v.toNat
  | .aslAbsX v => v.toNat
  | .aslAcc => 0
  | .lsrZp v => v.toNat
  | .lsrZpX v => v.toNat
  | .lsrAbs v => v.toNat
  | .lsrAbsX v => v.toNat
  | .lsrAcc => 0
  | .rolZp v => v.toNat
  | .rolZpX v => v.toNat
  | .rolAbs v => v.toNat
  | .rolAbsX v => v.toNat
  | .rolAcc => 0
  | .rorZp v => v.toNat
  | .rorZpX v => v.toNat
  | .rorAbs v => v.toNat
  | .rorAbsX v => v.toNat
  | .rorAcc => 0
  | .bcc v => v.toNat
  | .bcs v => v.toNat
  | .beq v => v.toNat
  | .bmi v => v.toNat
  | .bne v => v.toNat
  | .bpl v => v.toNat
  | .bvc v => v.toNat
  | .bvs v => v.toNat
  | .jmpAbs v => v.toNat
  | .jmpInd v => v.toNat
  | .jsr v => v.toNat
  | .rts => 0
  | .rti => 0
  | .brk => 0
  | .pha => 0
  | .php => 0
  | .pla => 0
  | .plp => 0
  | .clc => 0
  | .cld => 0
  | .cli => 0
  | .clv => 0
  | .sec => 0
  | .sed => 0
  | .sei => 0
  | .nop => 0

end Sys2Proof
end

