-- ==== Sys2Proof/WellFormed.lean ====
section
/-! DEFINITION. Which written instructions are instructions at all: the mode must be one the mnemonic has (spec 41 R116, 30 R66), the operand must fit the mode (30 R61), and a branch must reach its target (30 R69). -/

namespace Sys2Proof

/-- The modes each mnemonic has, row by row from the table of 30 R66. -/
def Mnemonic.modes : Mnemonic → List AddrMode
  | .lda => [.imm, .zp, .zpX, .abs, .absX, .absY, .indX, .indY]
  | .ldx => [.imm, .zp, .zpY, .abs, .absY]
  | .ldy => [.imm, .zp, .zpX, .abs, .absX]
  | .sta => [.zp, .zpX, .abs, .absX, .absY, .indX, .indY]
  | .stx => [.zp, .zpY, .abs]
  | .sty => [.zp, .zpX, .abs]
  | .tax => [.imp]
  | .tay => [.imp]
  | .txa => [.imp]
  | .tya => [.imp]
  | .tsx => [.imp]
  | .txs => [.imp]
  | .adc => [.imm, .zp, .zpX, .abs, .absX, .absY, .indX, .indY]
  | .sbc => [.imm, .zp, .zpX, .abs, .absX, .absY, .indX, .indY]
  | .and => [.imm, .zp, .zpX, .abs, .absX, .absY, .indX, .indY]
  | .ora => [.imm, .zp, .zpX, .abs, .absX, .absY, .indX, .indY]
  | .eor => [.imm, .zp, .zpX, .abs, .absX, .absY, .indX, .indY]
  | .bit => [.zp, .abs]
  | .cmp => [.imm, .zp, .zpX, .abs, .absX, .absY, .indX, .indY]
  | .cpx => [.imm, .zp, .abs]
  | .cpy => [.imm, .zp, .abs]
  | .inc => [.zp, .zpX, .abs, .absX]
  | .dec => [.zp, .zpX, .abs, .absX]
  | .inx => [.imp]
  | .iny => [.imp]
  | .dex => [.imp]
  | .dey => [.imp]
  | .asl => [.zp, .zpX, .abs, .absX, .acc]
  | .lsr => [.zp, .zpX, .abs, .absX, .acc]
  | .rol => [.zp, .zpX, .abs, .absX, .acc]
  | .ror => [.zp, .zpX, .abs, .absX, .acc]
  | .bcc => [.rel]
  | .bcs => [.rel]
  | .beq => [.rel]
  | .bmi => [.rel]
  | .bne => [.rel]
  | .bpl => [.rel]
  | .bvc => [.rel]
  | .bvs => [.rel]
  | .jmp => [.abs, .ind]
  | .jsr => [.abs]
  | .rts => [.stack]
  | .rti => [.stack]
  | .brk => [.stack]
  | .pha => [.stack]
  | .php => [.stack]
  | .pla => [.stack]
  | .plp => [.stack]
  | .clc => [.imp]
  | .cld => [.imp]
  | .cli => [.imp]
  | .clv => [.imp]
  | .sec => [.imp]
  | .sed => [.imp]
  | .sei => [.imp]
  | .nop => [.imp]

/-- An instruction as a programmer writes it: any mnemonic, any mode, any number as its operand. -/
structure Written where
  mnemonic : Mnemonic
  mode : AddrMode
  operand : Nat
  deriving DecidableEq, Repr

/-- The mode is one of the mnemonic's: "A mnemonic in a mode its row does not list has no encoding" (41 R116). -/
def Written.modeListed (w : Written) : Bool :=
  w.mnemonic.modes.contains w.mode

/-- The operand fits the mode's operand bytes (30 R60, R61). -/
def Written.operandFits (w : Written) : Bool :=
  decide (w.operand < 256 ^ w.mode.operandBytes)

/-- A written instruction is well formed when both hold. -/
def Written.wf (w : Written) : Bool :=
  w.modeListed && w.operandFits

/-- An instruction of the model, written out. -/
def Instr.written (i : Instr) : Written :=
  ⟨i.mnemonic, i.mode, i.operand⟩

/-- Well-formedness of an instruction of the model. -/
def Instr.wf (i : Instr) : Bool :=
  i.written.wf

/-- The REL operand of a branch at `pc0` to `target`: "`rr = target - (PC0 + 2)`, which must lie in -128..+127" (30 R69);
`none` where it does not. -/
def branchOperand (pc0 target : Addr) : Option Byte :=
  let d := target - (pc0 + 2#16)
  if d.toInt < -128 ∨ 127 < d.toInt then none else some (BitVec.ofInt 8 d.toInt)

end Sys2Proof
end

