-- ==== Sys2Proof/Decode.lean ====
section
/-! DEFINITION. The instruction_decoder (spec 30 R60-R67): the descriptor table, the decoder, total on any bytes, and the encoder. -/

namespace Sys2Proof

/-! ## Byte order and extension (00 R8, 20 R43) -/

/-- `lo(w) = w[7:0]` (00 R8). -/
def loByte (w : Addr) : Byte := w.extractLsb' 0 8

/-- `hi(w) = w[15:8]` (00 R8). -/
def hiByte (w : Addr) : Byte := w.extractLsb' 8 8

/-- `h:l`, the word with high byte `h` (00 R8, 20 R43). -/
def word (h l : Byte) : Addr := h ++ l

/-- `zext_16` (00 R8). -/
def zext16 (b : Byte) : Addr := b.setWidth 16

/-- `sext_16` (00 R8). -/
def sext16 (b : Byte) : Addr := b.signExtend 16

/-! ## The descriptor table -/

/-- What may be added to the base cycle count (40 R85). -/
inductive Penalty where
  /-- nothing -/
  | none
  /-- +1 when indexing crosses a page (41 R111) -/
  | pageCross
  /-- +1 when the branch is taken, +1 more when its target is in another page (45 R180) -/
  | branch
  deriving DecidableEq, Repr

/-- The three formats, each with the instruction its operand bytes complete (30 R60). -/
inductive Format where
  /-- F1: the opcode alone -/
  | f1 (i : Instr)
  /-- F2: one operand byte -/
  | f2 (make : Byte → Instr)
  /-- F3: a little-endian address -/
  | f3 (make : Addr → Instr)

/-- An instruction descriptor (30 R63, 40 R91). Its semantic handler is the instruction the format makes; `rule` is the number
of the rule that gives its meaning. -/
structure Descriptor where
  mnemonic : Mnemonic
  mode : AddrMode
  cycles : Nat
  penalty : Penalty
  rule : Nat
  format : Format

/-- "1 + the operand length (0/1/2 bytes) of its descriptor" (30 R60). -/
def Descriptor.length (d : Descriptor) : Nat :=
  1 + d.mode.operandBytes

/-- `d.cycles + penalty(d, r, taken)` (40 R84, R85). -/
def Descriptor.cost (d : Descriptor) (cross taken : Bool) : Nat :=
  d.cycles +
    match d.penalty with
    | .none => 0
    | .pageCross => cross.toNat
    | .branch => taken.toNat + (taken && cross).toNat

/-- The opcodes 0x00 to 0x0F (30 R64, row 00; cycles 70 R282). -/
def opcodeRow0 : List (Option Descriptor) := [
  some ⟨.brk, .stack, 7, .none, 193, .f1 .brk⟩,
  some ⟨.ora, .indX, 6, .none, 149, .f2 .oraIndX⟩,
  none, none, none,
  some ⟨.ora, .zp, 3, .none, 149, .f2 .oraZp⟩,
  some ⟨.asl, .zp, 5, .none, 171, .f2 .aslZp⟩,
  none,
  some ⟨.php, .stack, 3, .none, 201, .f1 .php⟩,
  some ⟨.ora, .imm, 2, .none, 149, .f2 .oraImm⟩,
  some ⟨.asl, .acc, 2, .none, 171, .f1 .aslAcc⟩,
  none, none,
  some ⟨.ora, .abs, 4, .none, 149, .f3 .oraAbs⟩,
  some ⟨.asl, .abs, 6, .none, 171, .f3 .aslAbs⟩,
  none]

/-- The opcodes 0x10 to 0x1F (30 R64, row 10; cycles 70 R282). -/
def opcodeRow1 : List (Option Descriptor) := [
  some ⟨.bpl, .rel, 2, .branch, 186, .f2 .bpl⟩,
  some ⟨.ora, .indY, 5, .pageCross, 149, .f2 .oraIndY⟩,
  none, none, none,
  some ⟨.ora, .zpX, 4, .none, 149, .f2 .oraZpX⟩,
  some ⟨.asl, .zpX, 6, .none, 171, .f2 .aslZpX⟩,
  none,
  some ⟨.clc, .imp, 2, .none, 204, .f1 .clc⟩,
  some ⟨.ora, .absY, 4, .pageCross, 149, .f3 .oraAbsY⟩,
  none, none, none,
  some ⟨.ora, .absX, 4, .pageCross, 149, .f3 .oraAbsX⟩,
  some ⟨.asl, .absX, 7, .none, 171, .f3 .aslAbsX⟩,
  none]

/-- The opcodes 0x20 to 0x2F (30 R64, row 20; cycles 70 R282). -/
def opcodeRow2 : List (Option Descriptor) := [
  some ⟨.jsr, .abs, 6, .none, 190, .f3 .jsr⟩,
  some ⟨.and, .indX, 6, .none, 148, .f2 .andIndX⟩,
  none, none,
  some ⟨.bit, .zp, 3, .none, 151, .f2 .bitZp⟩,
  some ⟨.and, .zp, 3, .none, 148, .f2 .andZp⟩,
  some ⟨.rol, .zp, 5, .none, 173, .f2 .rolZp⟩,
  none,
  some ⟨.plp, .stack, 4, .none, 203, .f1 .plp⟩,
  some ⟨.and, .imm, 2, .none, 148, .f2 .andImm⟩,
  some ⟨.rol, .acc, 2, .none, 173, .f1 .rolAcc⟩,
  none,
  some ⟨.bit, .abs, 4, .none, 151, .f3 .bitAbs⟩,
  some ⟨.and, .abs, 4, .none, 148, .f3 .andAbs⟩,
  some ⟨.rol, .abs, 6, .none, 173, .f3 .rolAbs⟩,
  none]

/-- The opcodes 0x30 to 0x3F (30 R64, row 30; cycles 70 R282). -/
def opcodeRow3 : List (Option Descriptor) := [
  some ⟨.bmi, .rel, 2, .branch, 184, .f2 .bmi⟩,
  some ⟨.and, .indY, 5, .pageCross, 148, .f2 .andIndY⟩,
  none, none, none,
  some ⟨.and, .zpX, 4, .none, 148, .f2 .andZpX⟩,
  some ⟨.rol, .zpX, 6, .none, 173, .f2 .rolZpX⟩,
  none,
  some ⟨.sec, .imp, 2, .none, 208, .f1 .sec⟩,
  some ⟨.and, .absY, 4, .pageCross, 148, .f3 .andAbsY⟩,
  none, none, none,
  some ⟨.and, .absX, 4, .pageCross, 148, .f3 .andAbsX⟩,
  some ⟨.rol, .absX, 7, .none, 173, .f3 .rolAbsX⟩,
  none]

/-- The opcodes 0x40 to 0x4F (30 R64, row 40; cycles 70 R282). -/
def opcodeRow4 : List (Option Descriptor) := [
  some ⟨.rti, .stack, 6, .none, 192, .f1 .rti⟩,
  some ⟨.eor, .indX, 6, .none, 150, .f2 .eorIndX⟩,
  none, none, none,
  some ⟨.eor, .zp, 3, .none, 150, .f2 .eorZp⟩,
  some ⟨.lsr, .zp, 5, .none, 172, .f2 .lsrZp⟩,
  none,
  some ⟨.pha, .stack, 3, .none, 200, .f1 .pha⟩,
  some ⟨.eor, .imm, 2, .none, 150, .f2 .eorImm⟩,
  some ⟨.lsr, .acc, 2, .none, 172, .f1 .lsrAcc⟩,
  none,
  some ⟨.jmp, .abs, 3, .none, 189, .f3 .jmpAbs⟩,
  some ⟨.eor, .abs, 4, .none, 150, .f3 .eorAbs⟩,
  some ⟨.lsr, .abs, 6, .none, 172, .f3 .lsrAbs⟩,
  none]

/-- The opcodes 0x50 to 0x5F (30 R64, row 50; cycles 70 R282). -/
def opcodeRow5 : List (Option Descriptor) := [
  some ⟨.bvc, .rel, 2, .branch, 187, .f2 .bvc⟩,
  some ⟨.eor, .indY, 5, .pageCross, 150, .f2 .eorIndY⟩,
  none, none, none,
  some ⟨.eor, .zpX, 4, .none, 150, .f2 .eorZpX⟩,
  some ⟨.lsr, .zpX, 6, .none, 172, .f2 .lsrZpX⟩,
  none,
  some ⟨.cli, .imp, 2, .none, 206, .f1 .cli⟩,
  some ⟨.eor, .absY, 4, .pageCross, 150, .f3 .eorAbsY⟩,
  none, none, none,
  some ⟨.eor, .absX, 4, .pageCross, 150, .f3 .eorAbsX⟩,
  some ⟨.lsr, .absX, 7, .none, 172, .f3 .lsrAbsX⟩,
  none]

/-- The opcodes 0x60 to 0x6F (30 R64, row 60; cycles 70 R282). -/
def opcodeRow6 : List (Option Descriptor) := [
  some ⟨.rts, .stack, 6, .none, 191, .f1 .rts⟩,
  some ⟨.adc, .indX, 6, .none, 146, .f2 .adcIndX⟩,
  none, none, none,
  some ⟨.adc, .zp, 3, .none, 146, .f2 .adcZp⟩,
  some ⟨.ror, .zp, 5, .none, 174, .f2 .rorZp⟩,
  none,
  some ⟨.pla, .stack, 4, .none, 202, .f1 .pla⟩,
  some ⟨.adc, .imm, 2, .none, 146, .f2 .adcImm⟩,
  some ⟨.ror, .acc, 2, .none, 174, .f1 .rorAcc⟩,
  none,
  some ⟨.jmp, .ind, 5, .none, 189, .f3 .jmpInd⟩,
  some ⟨.adc, .abs, 4, .none, 146, .f3 .adcAbs⟩,
  some ⟨.ror, .abs, 6, .none, 174, .f3 .rorAbs⟩,
  none]

/-- The opcodes 0x70 to 0x7F (30 R64, row 70; cycles 70 R282). -/
def opcodeRow7 : List (Option Descriptor) := [
  some ⟨.bvs, .rel, 2, .branch, 188, .f2 .bvs⟩,
  some ⟨.adc, .indY, 5, .pageCross, 146, .f2 .adcIndY⟩,
  none, none, none,
  some ⟨.adc, .zpX, 4, .none, 146, .f2 .adcZpX⟩,
  some ⟨.ror, .zpX, 6, .none, 174, .f2 .rorZpX⟩,
  none,
  some ⟨.sei, .imp, 2, .none, 210, .f1 .sei⟩,
  some ⟨.adc, .absY, 4, .pageCross, 146, .f3 .adcAbsY⟩,
  none, none, none,
  some ⟨.adc, .absX, 4, .pageCross, 146, .f3 .adcAbsX⟩,
  some ⟨.ror, .absX, 7, .none, 174, .f3 .rorAbsX⟩,
  none]

/-- The opcodes 0x80 to 0x8F (30 R64, row 80; cycles 70 R282). -/
def opcodeRow8 : List (Option Descriptor) := [
  none,
  some ⟨.sta, .indX, 6, .none, 123, .f2 .staIndX⟩,
  none, none,
  some ⟨.sty, .zp, 3, .none, 125, .f2 .styZp⟩,
  some ⟨.sta, .zp, 3, .none, 123, .f2 .staZp⟩,
  some ⟨.stx, .zp, 3, .none, 124, .f2 .stxZp⟩,
  none,
  some ⟨.dey, .imp, 2, .none, 160, .f1 .dey⟩,
  none,
  some ⟨.txa, .imp, 2, .none, 128, .f1 .txa⟩,
  none,
  some ⟨.sty, .abs, 4, .none, 125, .f3 .styAbs⟩,
  some ⟨.sta, .abs, 4, .none, 123, .f3 .staAbs⟩,
  some ⟨.stx, .abs, 4, .none, 124, .f3 .stxAbs⟩,
  none]

/-- The opcodes 0x90 to 0x9F (30 R64, row 90; cycles 70 R282). -/
def opcodeRow9 : List (Option Descriptor) := [
  some ⟨.bcc, .rel, 2, .branch, 181, .f2 .bcc⟩,
  some ⟨.sta, .indY, 6, .none, 123, .f2 .staIndY⟩,
  none, none,
  some ⟨.sty, .zpX, 4, .none, 125, .f2 .styZpX⟩,
  some ⟨.sta, .zpX, 4, .none, 123, .f2 .staZpX⟩,
  some ⟨.stx, .zpY, 4, .none, 124, .f2 .stxZpY⟩,
  none,
  some ⟨.tya, .imp, 2, .none, 129, .f1 .tya⟩,
  some ⟨.sta, .absY, 5, .none, 123, .f3 .staAbsY⟩,
  some ⟨.txs, .imp, 2, .none, 131, .f1 .txs⟩,
  none, none,
  some ⟨.sta, .absX, 5, .none, 123, .f3 .staAbsX⟩,
  none, none]

/-- The opcodes 0xA0 to 0xAF (30 R64, row A0; cycles 70 R282). -/
def opcodeRowA : List (Option Descriptor) := [
  some ⟨.ldy, .imm, 2, .none, 122, .f2 .ldyImm⟩,
  some ⟨.lda, .indX, 6, .none, 120, .f2 .ldaIndX⟩,
  some ⟨.ldx, .imm, 2, .none, 121, .f2 .ldxImm⟩,
  none,
  some ⟨.ldy, .zp, 3, .none, 122, .f2 .ldyZp⟩,
  some ⟨.lda, .zp, 3, .none, 120, .f2 .ldaZp⟩,
  some ⟨.ldx, .zp, 3, .none, 121, .f2 .ldxZp⟩,
  none,
  some ⟨.tay, .imp, 2, .none, 127, .f1 .tay⟩,
  some ⟨.lda, .imm, 2, .none, 120, .f2 .ldaImm⟩,
  some ⟨.tax, .imp, 2, .none, 126, .f1 .tax⟩,
  none,
  some ⟨.ldy, .abs, 4, .none, 122, .f3 .ldyAbs⟩,
  some ⟨.lda, .abs, 4, .none, 120, .f3 .ldaAbs⟩,
  some ⟨.ldx, .abs, 4, .none, 121, .f3 .ldxAbs⟩,
  none]

/-- The opcodes 0xB0 to 0xBF (30 R64, row B0; cycles 70 R282). -/
def opcodeRowB : List (Option Descriptor) := [
  some ⟨.bcs, .rel, 2, .branch, 182, .f2 .bcs⟩,
  some ⟨.lda, .indY, 5, .pageCross, 120, .f2 .ldaIndY⟩,
  none, none,
  some ⟨.ldy, .zpX, 4, .none, 122, .f2 .ldyZpX⟩,
  some ⟨.lda, .zpX, 4, .none, 120, .f2 .ldaZpX⟩,
  some ⟨.ldx, .zpY, 4, .none, 121, .f2 .ldxZpY⟩,
  none,
  some ⟨.clv, .imp, 2, .none, 207, .f1 .clv⟩,
  some ⟨.lda, .absY, 4, .pageCross, 120, .f3 .ldaAbsY⟩,
  some ⟨.tsx, .imp, 2, .none, 130, .f1 .tsx⟩,
  none,
  some ⟨.ldy, .absX, 4, .pageCross, 122, .f3 .ldyAbsX⟩,
  some ⟨.lda, .absX, 4, .pageCross, 120, .f3 .ldaAbsX⟩,
  some ⟨.ldx, .absY, 4, .pageCross, 121, .f3 .ldxAbsY⟩,
  none]

/-- The opcodes 0xC0 to 0xCF (30 R64, row C0; cycles 70 R282). -/
def opcodeRowC : List (Option Descriptor) := [
  some ⟨.cpy, .imm, 2, .none, 154, .f2 .cpyImm⟩,
  some ⟨.cmp, .indX, 6, .none, 152, .f2 .cmpIndX⟩,
  none, none,
  some ⟨.cpy, .zp, 3, .none, 154, .f2 .cpyZp⟩,
  some ⟨.cmp, .zp, 3, .none, 152, .f2 .cmpZp⟩,
  some ⟨.dec, .zp, 5, .none, 156, .f2 .decZp⟩,
  none,
  some ⟨.iny, .imp, 2, .none, 158, .f1 .iny⟩,
  some ⟨.cmp, .imm, 2, .none, 152, .f2 .cmpImm⟩,
  some ⟨.dex, .imp, 2, .none, 159, .f1 .dex⟩,
  none,
  some ⟨.cpy, .abs, 4, .none, 154, .f3 .cpyAbs⟩,
  some ⟨.cmp, .abs, 4, .none, 152, .f3 .cmpAbs⟩,
  some ⟨.dec, .abs, 6, .none, 156, .f3 .decAbs⟩,
  none]

/-- The opcodes 0xD0 to 0xDF (30 R64, row D0; cycles 70 R282). -/
def opcodeRowD : List (Option Descriptor) := [
  some ⟨.bne, .rel, 2, .branch, 185, .f2 .bne⟩,
  some ⟨.cmp, .indY, 5, .pageCross, 152, .f2 .cmpIndY⟩,
  none, none, none,
  some ⟨.cmp, .zpX, 4, .none, 152, .f2 .cmpZpX⟩,
  some ⟨.dec, .zpX, 6, .none, 156, .f2 .decZpX⟩,
  none,
  some ⟨.cld, .imp, 2, .none, 205, .f1 .cld⟩,
  some ⟨.cmp, .absY, 4, .pageCross, 152, .f3 .cmpAbsY⟩,
  none, none, none,
  some ⟨.cmp, .absX, 4, .pageCross, 152, .f3 .cmpAbsX⟩,
  some ⟨.dec, .absX, 7, .none, 156, .f3 .decAbsX⟩,
  none]

/-- The opcodes 0xE0 to 0xEF (30 R64, row E0; cycles 70 R282). -/
def opcodeRowE : List (Option Descriptor) := [
  some ⟨.cpx, .imm, 2, .none, 153, .f2 .cpxImm⟩,
  some ⟨.sbc, .indX, 6, .none, 147, .f2 .sbcIndX⟩,
  none, none,
  some ⟨.cpx, .zp, 3, .none, 153, .f2 .cpxZp⟩,
  some ⟨.sbc, .zp, 3, .none, 147, .f2 .sbcZp⟩,
  some ⟨.inc, .zp, 5, .none, 155, .f2 .incZp⟩,
  none,
  some ⟨.inx, .imp, 2, .none, 157, .f1 .inx⟩,
  some ⟨.sbc, .imm, 2, .none, 147, .f2 .sbcImm⟩,
  some ⟨.nop, .imp, 2, .none, 211, .f1 .nop⟩,
  none,
  some ⟨.cpx, .abs, 4, .none, 153, .f3 .cpxAbs⟩,
  some ⟨.sbc, .abs, 4, .none, 147, .f3 .sbcAbs⟩,
  some ⟨.inc, .abs, 6, .none, 155, .f3 .incAbs⟩,
  none]

/-- The opcodes 0xF0 to 0xFF (30 R64, row F0; cycles 70 R282). -/
def opcodeRowF : List (Option Descriptor) := [
  some ⟨.beq, .rel, 2, .branch, 183, .f2 .beq⟩,
  some ⟨.sbc, .indY, 5, .pageCross, 147, .f2 .sbcIndY⟩,
  none, none, none,
  some ⟨.sbc, .zpX, 4, .none, 147, .f2 .sbcZpX⟩,
  some ⟨.inc, .zpX, 6, .none, 155, .f2 .incZpX⟩,
  none,
  some ⟨.sed, .imp, 2, .none, 209, .f1 .sed⟩,
  some ⟨.sbc, .absY, 4, .pageCross, 147, .f3 .sbcAbsY⟩,
  none, none, none,
  some ⟨.sbc, .absX, 4, .pageCross, 147, .f3 .sbcAbsX⟩,
  some ⟨.inc, .absX, 7, .none, 155, .f3 .incAbsX⟩,
  none]

/-- The opcode map: "one cell per opcode byte, row = bits 7:4 and column = bits 3:0" (30 R64). -/
def opcodeMap : List (List (Option Descriptor)) :=
  [opcodeRow0, opcodeRow1, opcodeRow2, opcodeRow3, opcodeRow4, opcodeRow5, opcodeRow6, opcodeRow7] ++
  [opcodeRow8, opcodeRow9, opcodeRowA, opcodeRowB, opcodeRowC, opcodeRowD, opcodeRowE, opcodeRowF]

/-- `decode : UInt8 → Option Descriptor` of 30 R63; `none` exactly for the illegal bytes of R65. -/
def descriptorOf (op : Byte) : Option Descriptor :=
  (opcodeMap.getD (op.toNat / 16) []).getD (op.toNat % 16) none

/-- The cycle count of an instruction by its opcode (40 R85); an illegal byte costs 0 (40 R86). -/
def cyclesOf (op : Byte) (cross taken : Bool) : Nat :=
  match descriptorOf op with
  | some d => d.cost cross taken
  | none => 0

/-! ## The decoder -/

/-- Why some bytes are no instruction. -/
inductive DecodeError where
  /-- no byte at all -/
  | empty
  /-- the opcode byte has no descriptor (30 R65) -/
  | illegalOpcode (op : Byte)
  /-- the operand bytes are missing -/
  | truncated (op : Byte)
  deriving DecidableEq, Repr

/-- The instruction at the front of some bytes, with the bytes after it (30 R60-R63). -/
def decode : List Byte → Except DecodeError (Instr × List Byte)
  | [] => .error .empty
  | op :: rest =>
    match descriptorOf op with
    | none => .error (.illegalOpcode op)
    | some d =>
      match d.format, rest with
      | .f1 i, r => .ok (i, r)
      | .f2 make, b1 :: r => .ok (make b1, r)
      | .f3 make, b1 :: b2 :: r => .ok (make (word b2 b1), r)
      | _, _ => .error (.truncated op)

/-- The `n` bytes of a number, least significant first (bit 0 is the lowest bit of the first byte). -/
def bytesOfNat : Nat → Nat → List Byte
  | 0, _ => []
  | n + 1, w => BitVec.ofNat 8 w :: bytesOfNat n (w / 256)

/-- The three bytes an instruction of `nbits` table bits `w` lies in, the bits above `nbits` being 0 (3 bytes is the longest
instruction, 30 R67). -/
def tableBytes (nbits w : Nat) : List Byte :=
  bytesOfNat 3 (w % 2 ^ nbits)

/-- What the decoder reads from a word of the opcode table. -/
def decodeTableWord (nbits w : Nat) : Option Instr :=
  match decode (tableBytes nbits w) with
  | .ok (i, _) => some i
  | .error _ => none

/-! ## The encoder, from the table of 30 R66 -/

/-- The bytes of an F3 instruction: the opcode, then the address: low byte first (30 R62). -/
def encodeAddr (op : Byte) (w : Addr) : List Byte := [op, loByte w, hiByte w]

/-- The bytes of an instruction (30 R60, R66). -/
def encode : Instr → List Byte
  | .ldaImm b => [0xA9#8, b]
  | .ldaZp b => [0xA5#8, b]
  | .ldaZpX b => [0xB5#8, b]
  | .ldaAbs w => encodeAddr 0xAD#8 w
  | .ldaAbsX w => encodeAddr 0xBD#8 w
  | .ldaAbsY w => encodeAddr 0xB9#8 w
  | .ldaIndX b => [0xA1#8, b]
  | .ldaIndY b => [0xB1#8, b]
  | .ldxImm b => [0xA2#8, b]
  | .ldxZp b => [0xA6#8, b]
  | .ldxZpY b => [0xB6#8, b]
  | .ldxAbs w => encodeAddr 0xAE#8 w
  | .ldxAbsY w => encodeAddr 0xBE#8 w
  | .ldyImm b => [0xA0#8, b]
  | .ldyZp b => [0xA4#8, b]
  | .ldyZpX b => [0xB4#8, b]
  | .ldyAbs w => encodeAddr 0xAC#8 w
  | .ldyAbsX w => encodeAddr 0xBC#8 w
  | .staZp b => [0x85#8, b]
  | .staZpX b => [0x95#8, b]
  | .staAbs w => encodeAddr 0x8D#8 w
  | .staAbsX w => encodeAddr 0x9D#8 w
  | .staAbsY w => encodeAddr 0x99#8 w
  | .staIndX b => [0x81#8, b]
  | .staIndY b => [0x91#8, b]
  | .stxZp b => [0x86#8, b]
  | .stxZpY b => [0x96#8, b]
  | .stxAbs w => encodeAddr 0x8E#8 w
  | .styZp b => [0x84#8, b]
  | .styZpX b => [0x94#8, b]
  | .styAbs w => encodeAddr 0x8C#8 w
  | .tax => [0xAA#8]
  | .tay => [0xA8#8]
  | .txa => [0x8A#8]
  | .tya => [0x98#8]
  | .tsx => [0xBA#8]
  | .txs => [0x9A#8]
  | .adcImm b => [0x69#8, b]
  | .adcZp b => [0x65#8, b]
  | .adcZpX b => [0x75#8, b]
  | .adcAbs w => encodeAddr 0x6D#8 w
  | .adcAbsX w => encodeAddr 0x7D#8 w
  | .adcAbsY w => encodeAddr 0x79#8 w
  | .adcIndX b => [0x61#8, b]
  | .adcIndY b => [0x71#8, b]
  | .sbcImm b => [0xE9#8, b]
  | .sbcZp b => [0xE5#8, b]
  | .sbcZpX b => [0xF5#8, b]
  | .sbcAbs w => encodeAddr 0xED#8 w
  | .sbcAbsX w => encodeAddr 0xFD#8 w
  | .sbcAbsY w => encodeAddr 0xF9#8 w
  | .sbcIndX b => [0xE1#8, b]
  | .sbcIndY b => [0xF1#8, b]
  | .andImm b => [0x29#8, b]
  | .andZp b => [0x25#8, b]
  | .andZpX b => [0x35#8, b]
  | .andAbs w => encodeAddr 0x2D#8 w
  | .andAbsX w => encodeAddr 0x3D#8 w
  | .andAbsY w => encodeAddr 0x39#8 w
  | .andIndX b => [0x21#8, b]
  | .andIndY b => [0x31#8, b]
  | .oraImm b => [0x09#8, b]
  | .oraZp b => [0x05#8, b]
  | .oraZpX b => [0x15#8, b]
  | .oraAbs w => encodeAddr 0x0D#8 w
  | .oraAbsX w => encodeAddr 0x1D#8 w
  | .oraAbsY w => encodeAddr 0x19#8 w
  | .oraIndX b => [0x01#8, b]
  | .oraIndY b => [0x11#8, b]
  | .eorImm b => [0x49#8, b]
  | .eorZp b => [0x45#8, b]
  | .eorZpX b => [0x55#8, b]
  | .eorAbs w => encodeAddr 0x4D#8 w
  | .eorAbsX w => encodeAddr 0x5D#8 w
  | .eorAbsY w => encodeAddr 0x59#8 w
  | .eorIndX b => [0x41#8, b]
  | .eorIndY b => [0x51#8, b]
  | .bitZp b => [0x24#8, b]
  | .bitAbs w => encodeAddr 0x2C#8 w
  | .cmpImm b => [0xC9#8, b]
  | .cmpZp b => [0xC5#8, b]
  | .cmpZpX b => [0xD5#8, b]
  | .cmpAbs w => encodeAddr 0xCD#8 w
  | .cmpAbsX w => encodeAddr 0xDD#8 w
  | .cmpAbsY w => encodeAddr 0xD9#8 w
  | .cmpIndX b => [0xC1#8, b]
  | .cmpIndY b => [0xD1#8, b]
  | .cpxImm b => [0xE0#8, b]
  | .cpxZp b => [0xE4#8, b]
  | .cpxAbs w => encodeAddr 0xEC#8 w
  | .cpyImm b => [0xC0#8, b]
  | .cpyZp b => [0xC4#8, b]
  | .cpyAbs w => encodeAddr 0xCC#8 w
  | .incZp b => [0xE6#8, b]
  | .incZpX b => [0xF6#8, b]
  | .incAbs w => encodeAddr 0xEE#8 w
  | .incAbsX w => encodeAddr 0xFE#8 w
  | .decZp b => [0xC6#8, b]
  | .decZpX b => [0xD6#8, b]
  | .decAbs w => encodeAddr 0xCE#8 w
  | .decAbsX w => encodeAddr 0xDE#8 w
  | .inx => [0xE8#8]
  | .iny => [0xC8#8]
  | .dex => [0xCA#8]
  | .dey => [0x88#8]
  | .aslZp b => [0x06#8, b]
  | .aslZpX b => [0x16#8, b]
  | .aslAbs w => encodeAddr 0x0E#8 w
  | .aslAbsX w => encodeAddr 0x1E#8 w
  | .aslAcc => [0x0A#8]
  | .lsrZp b => [0x46#8, b]
  | .lsrZpX b => [0x56#8, b]
  | .lsrAbs w => encodeAddr 0x4E#8 w
  | .lsrAbsX w => encodeAddr 0x5E#8 w
  | .lsrAcc => [0x4A#8]
  | .rolZp b => [0x26#8, b]
  | .rolZpX b => [0x36#8, b]
  | .rolAbs w => encodeAddr 0x2E#8 w
  | .rolAbsX w => encodeAddr 0x3E#8 w
  | .rolAcc => [0x2A#8]
  | .rorZp b => [0x66#8, b]
  | .rorZpX b => [0x76#8, b]
  | .rorAbs w => encodeAddr 0x6E#8 w
  | .rorAbsX w => encodeAddr 0x7E#8 w
  | .rorAcc => [0x6A#8]
  | .bcc b => [0x90#8, b]
  | .bcs b => [0xB0#8, b]
  | .beq b => [0xF0#8, b]
  | .bmi b => [0x30#8, b]
  | .bne b => [0xD0#8, b]
  | .bpl b => [0x10#8, b]
  | .bvc b => [0x50#8, b]
  | .bvs b => [0x70#8, b]
  | .jmpAbs w => encodeAddr 0x4C#8 w
  | .jmpInd w => encodeAddr 0x6C#8 w
  | .jsr w => encodeAddr 0x20#8 w
  | .rts => [0x60#8]
  | .rti => [0x40#8]
  | .brk => [0x00#8]
  | .pha => [0x48#8]
  | .php => [0x08#8]
  | .pla => [0x68#8]
  | .plp => [0x28#8]
  | .clc => [0x18#8]
  | .cld => [0xD8#8]
  | .cli => [0x58#8]
  | .clv => [0xB8#8]
  | .sec => [0x38#8]
  | .sed => [0xF8#8]
  | .sei => [0x78#8]
  | .nop => [0xEA#8]

end Sys2Proof
end

