-- ==== Sys2Proof/Machine/State.lean ====
section
/-! DEFINITION. The state of the u6502 core (spec 10), with the host oracle of spec 20 as plain data, the reasons a step can stop, and the machine right after reset. -/

namespace Sys2Proof.Machine

/-- The processor status register P (10 R23), one field per bit. Bit 5 is hard-wired to 1 and is no field (10 R24): `Flags.toByte`
puts it in. `b` is what the register holds in bit 4, "an unspecified value" that no program can observe (10 R25; log entry 3). -/
structure Flags where
  c : Bool
  z : Bool
  i : Bool
  d : Bool
  b : Bool
  v : Bool
  n : Bool
  deriving DecidableEq, Repr

/-- The Status an execution entry point returns: "an enumeration with no encoding" (40 R80). -/
inductive Status where
  | ok
  | stackFault
  | illegal
  deriving DecidableEq, Repr

/-- Why the core is in a faulted mode (10 R30). -/
inductive FaultKind where
  | illegal
  | stackFault
  deriving DecidableEq, Repr

/-- The execution state machine: "{Reset, Executing, Faulted(Illegal), Faulted(StackFault)}" (10 R30). -/
inductive Mode where
  | reset
  | executing
  | faulted (why : FaultKind)
  deriving DecidableEq, Repr

/-- The memory behind the Bus: pairs (address, byte), addresses strictly rising, no entry equal to what an unlisted address
reads as (20 R40, R55; `Memory.wf`). -/
abbrev Memory := List Host.Cell

/-- One call of the Bus (20 R41, R42, R46). -/
inductive BusCall where
  | read (a : Addr)
  | write (a : Addr) (v : Byte)
  | call (target source : Addr)
  deriving DecidableEq, Repr

/-- What the host's call hook answers: a 16-bit "resume-address-or-zero", or the end of the host's process (20 R46). -/
inductive HookAnswer where
  | value (r : Addr)
  | halt
  deriving DecidableEq, Repr

/-- One reply of the host to a call of the hook: its answer, and the bytes of memory the hook changes first ("The hook may change
host state and bus-visible memory", 20 R46). -/
structure HookReply where
  answer : HookAnswer
  writes : List (Addr × Byte)
  deriving DecidableEq, Repr

/-- A range of addresses, `size` of them from `base` on, modulo 2^16. -/
structure Range where
  base : Addr
  size : Nat
  deriving DecidableEq, Repr

/-- The host oracle of 20 R41, R42, R46 as plain data (log entries 6, 7, 8). With `mapped`, `answers` and `hooks` empty it is the
reference Bus of 20 R55: a flat memory, and a hook that returns 0. -/
structure Bus where
  /-- the byte array -/
  mem : Memory
  /-- the addresses the host maps to anything but that array: ROM, mirrors, I/O (20 R40, R49) -/
  mapped : List Range
  /-- the host's answers to the coming reads of mapped addresses, the next one first (20 R41, 93 U11) -/
  answers : List Byte
  /-- the host's replies to the coming calls of the hook, the next one first (20 R46, 93 U13) -/
  hooks : List HookReply
  /-- the Bus calls the host has received, the latest first (20 R48) -/
  calls : List BusCall
  deriving DecidableEq, Repr

/-- The whole state. -/
structure State where
  /-- accumulator (10 R20) -/
  a : Byte
  /-- index register X (10 R20) -/
  x : Byte
  /-- index register Y (10 R20) -/
  y : Byte
  /-- the stack pointer S, an offset into 0x0100-0x01FF (10 R26) -/
  sp : Byte
  /-- program counter (10 R22) -/
  pc : Addr
  /-- processor status (10 R23) -/
  p : Flags
  /-- clock cycles still owed by the instruction most recently started (10 R29) -/
  ticks : Nat
  /-- the execution state machine (10 R30) -/
  mode : Mode
  /-- the Status the last execution entry point returned (40 R80; log entry 12) -/
  status : Status
  /-- the model's arguments (00 R7); nothing changes them -/
  params : Params
  /-- memory and the host oracle (20) -/
  bus : Bus
  /-- how many free values have been drawn (log entry 2) -/
  draws : Nat
  deriving DecidableEq, Repr

/-- Why the machine stops for good. -/
inductive Fault where
  /-- HostHalt: the host ended its process inside the call hook (20 R46, 40 R89; 93 U13 "Halt is a fault, outcome HostHalt").
  Raised by JSR, and by BRK when it consults the hook. Safe: the machine does not go on either. -/
  | hostHalt
  deriving DecidableEq, Repr

/-- Why the model gives a call no meaning. -/
inductive Refusal where
  /-- an instruction without a meaning yet; raised by `exec` alone. Safe. -/
  | notModelled (mnemonic : String)
  /-- tick, step or run from a faulted mode: "The spec therefore refuses every tick, step and run from a faulted mode" (40 R88).
  Raised by `tick` and `stepCall`. Safe. -/
  | faultedMode
  /-- an entry point, or an interrupt call, with STRICT_STACK true: "the model refuses every entry point" (40 R87). Raised by `tick`,
  `stepCall`, `irqCall` and `nmiCall`. Safe. -/
  | strictStack
  deriving DecidableEq, Repr

/-- What an instruction or a call gives: the next state, a fault or a refusal. -/
abbrev Result := Host.Outcome State Fault Refusal

/-- The machine right after reset (10 R33), on the reference Bus of 20 R55 with nothing in memory.
I is 1, ticks 0, the mode Reset, PC what the two vector reads give, which is 0x0000 here. A, X, Y, S, C, Z, D, V, N and bit 4 are
"unspecified" in R33 and 0 here (DESIGN CHOICE, log entry 1). The calls are the vector reads of 70 R270. -/
def State.reset : State where
  a := 0
  x := 0
  y := 0
  sp := 0
  pc := 0
  p := ⟨false, false, true, false, false, false, false⟩
  ticks := 0
  mode := .reset
  status := .ok
  params := Config.params
  bus := ⟨[], [], [], [], [.read 0xFFFD#16, .read 0xFFFC#16]⟩
  draws := 0

end Sys2Proof.Machine
end

