-- ==== Sys2Proof/Machine/Ops.lean ====
section
/-! DEFINITION. The named operations over registers, memory, the Bus and the stack (spec 00 R9-R11, spec 20), and taking and leaving an exception (spec 45 R192, R193, spec 60 R242). -/

namespace Sys2Proof.Machine

/-! ## Writing one field (00 R9) -/

def State.setA (v : Byte) (s : State) : State := { s with a := v }
def State.setX (v : Byte) (s : State) : State := { s with x := v }
def State.setY (v : Byte) (s : State) : State := { s with y := v }
def State.setSp (v : Byte) (s : State) : State := { s with sp := v }
def State.setPc (v : Addr) (s : State) : State := { s with pc := v }
def State.setP (v : Flags) (s : State) : State := { s with p := v }
def State.setTicks (v : Nat) (s : State) : State := { s with ticks := v }
def State.setMode (v : Mode) (s : State) : State := { s with mode := v }
def State.setStatus (v : Status) (s : State) : State := { s with status := v }
def State.setBus (v : Bus) (s : State) : State := { s with bus := v }
def State.setDraws (v : Nat) (s : State) : State := { s with draws := v }

/-! ## Memory -/

/-- The byte at an address (20 R55); an unlisted address reads as `Config.blankByte`. -/
def Memory.read : Memory → Nat → Byte
  | [], _ => Config.blankByte
  | (b, w) :: m, a => if b = a then w else Memory.read m a

/-- A new entry before the rest: none where the byte is what an unlisted address reads as. -/
def Memory.entry (a : Nat) (v : Byte) (m : Memory) : Memory :=
  if v = Config.blankByte then m else (a, v) :: m

/-- `mem[a] <- v` (20 R55), keeping the canonical form. -/
def Memory.write : Memory → Nat → Byte → Memory
  | [], a, v => Memory.entry a v []
  | (b, w) :: m, a, v =>
    if b < a then (b, w) :: Memory.write m a v
    else if b = a then Memory.entry a v m
    else Memory.entry a v ((b, w) :: m)

/-- The canonical form from address `lo` on: addresses rise strictly and lie below 2^16, and no byte is blank. -/
def Memory.wfFrom : Nat → Memory → Bool
  | _, [] => true
  | lo, (a, v) :: m =>
    decide (lo ≤ a) && decide (a < 65536) && decide (v ≠ Config.blankByte) && Memory.wfFrom (a + 1) m

/-- The canonical form of memory. -/
def Memory.wf (m : Memory) : Bool := Memory.wfFrom 0 m

/-- Several writes, in order. -/
def Memory.writeAll : Memory → List (Addr × Byte) → Memory
  | m, [] => m
  | m, (a, v) :: rest => Memory.writeAll (m.write a.toNat v) rest

/-! ## The Bus (20 R41, R42, R46) -/

/-- The address lies in the range, counted modulo 2^16. -/
def Range.has (r : Range) (a : Addr) : Bool :=
  decide ((a - r.base).toNat < r.size)

/-- The host maps this address to something other than the byte array. -/
def Bus.isMapped (b : Bus) (a : Addr) : Bool :=
  b.mapped.any (fun r => r.has a)

/-- The byte of the array at an address, without a Bus call: what the host sees there. -/
def State.peek (s : State) (a : Addr) : Byte :=
  s.bus.mem.read a.toNat

/-- The host writes a byte of the array itself: no Bus call. -/
def State.poke (a : Addr) (v : Byte) (s : State) : State :=
  s.setBus { s.bus with mem := s.bus.mem.write a.toNat v }

/-- The host has received one more Bus call. -/
def State.noteCall (c : BusCall) (s : State) : State :=
  s.setBus { s.bus with calls := c :: s.bus.calls }

/-- The next free byte (93 "any value"). -/
def State.drawByte (s : State) : Byte × State :=
  (Config.freeByte s.draws, s.setDraws (s.draws + 1))

/-- The next free bit (93 "any value"). -/
def State.drawBit (s : State) : Bool × State :=
  (Config.freeBit s.draws, s.setDraws (s.draws + 1))

/-- The host's next answer to a read of a mapped address; a free value where none is queued (20 R41, 93 U11). -/
def State.hostAnswer (s : State) : Byte × State :=
  match s.bus.answers with
  | v :: rest => (v, s.setBus { s.bus with answers := rest })
  | [] => s.drawByte

/-- `MemRead(a, 1)`: one call of the Bus `read` (00 R10, 20 R41). -/
def State.busRead (a : Addr) (s : State) : Byte × State :=
  if s.bus.isMapped a then (s.noteCall (.read a)).hostAnswer
  else (s.peek a, s.noteCall (.read a))

/-- `MemWrite(a, 1, v)`: one call of the Bus `write` (00 R10, 20 R42). At a mapped address the host takes the byte and the array
keeps its own. -/
def State.busWrite (a : Addr) (v : Byte) (s : State) : State :=
  if s.bus.isMapped a then s.noteCall (.write a v)
  else (s.noteCall (.write a v)).poke a v

/-- `Read16(a)`: low byte, then high byte at `a + 1` modulo 2^16 (00 R10, 20 R44). -/
def State.read16 (a : Addr) (s : State) : Addr × State :=
  let l := s.busRead a
  let h := l.2.busRead (a + 1#16)
  (word h.1 l.1, h.2)

/-- What a call of the hook comes to (20 R46). -/
inductive HookResult where
  | resume (a : Addr)
  | fallthrough
  | halt
  deriving DecidableEq, Repr

/-- "Since 0 means Fallthrough, a hook cannot resume at address 0x0000" (20 R46, D38). -/
def HookAnswer.result : HookAnswer → HookResult
  | .value r => if r = 0#16 then .fallthrough else .resume r
  | .halt => .halt

/-- The host's next reply to the hook; the reference Bus, with none queued, answers 0 and changes nothing (20 R55). -/
def Bus.nextReply (b : Bus) : HookReply :=
  b.hooks.headD ⟨.value 0#16, []⟩

/-- `CallHook(target, source)`: one call of the Bus `call` (00 R10, 20 R46). -/
def State.callHook (target source : Addr) (s : State) : HookResult × State :=
  let s1 := s.noteCall (.call target source)
  (s.bus.nextReply.answer.result,
   s1.setBus { s1.bus with mem := s1.bus.mem.writeAll s.bus.nextReply.writes, hooks := s1.bus.hooks.tail })

/-! ## P as a byte (10 R23-R25) -/

/-- P as a byte whose bit 4 is `b4`; bit 5 reads as 1 (10 R24). -/
def Flags.toByteWith (b4 : Bool) (p : Flags) : Byte :=
  BitVec.ofBool p.n ++ BitVec.ofBool p.v ++ 1#1 ++ BitVec.ofBool b4 ++
    BitVec.ofBool p.d ++ BitVec.ofBool p.i ++ BitVec.ofBool p.z ++ BitVec.ofBool p.c

/-- P as the host reads it (10 R24, R34). -/
def Flags.toByte (p : Flags) : Byte := p.toByteWith p.b

/-- P from a byte: N, V, D, I, Z, C are bits 7, 6, 3, 2, 1, 0; bit 5 is not taken (10 R23, R24); bit 4 becomes `b4`. -/
def Flags.ofByte (b4 : Bool) (v : Byte) : Flags :=
  ⟨v.getLsbD 0, v.getLsbD 1, v.getLsbD 2, v.getLsbD 3, b4, v.getLsbD 6, v.getLsbD 7⟩

/-! ## The stack (00 R11, 10 R26, R27) -/

/-- "The stack address of S is `0x0100 + zext_16(S)`" (10 R26). -/
def stackAddr (sp : Byte) : Addr := 0x0100#16 + zext16 sp

/-- `Push(v)`: write at the stack address of S, then decrement S, wrapping (00 R11). -/
def State.push (v : Byte) (s : State) : State :=
  let s1 := s.busWrite (stackAddr s.sp) v
  s1.setSp (s1.sp - 1#8)

/-- `Pull()`: increment S, wrapping, then read at its stack address (00 R11). -/
def State.pull (s : State) : Byte × State :=
  (s.setSp (s.sp + 1#8)).busRead (stackAddr (s.sp + 1#8))

/-- "A 16-bit value is pushed high byte first" (10 R27). -/
def State.pushWord (w : Addr) (s : State) : State :=
  (s.push (hiByte w)).push (loByte w)

/-- "It is pulled low byte first" (10 R27). -/
def State.pullWord (s : State) : Addr × State :=
  let l := s.pull
  let h := l.2.pull
  (word h.1 l.1, h.2)

/-! ## Taking and leaving an exception -/

/-- The three vectors (20 R49). -/
inductive Vector where
  | nmi
  | reset
  | irq
  deriving DecidableEq, Repr

/-- `vaddr` (20 R54). -/
def Vector.addr : Vector → Addr
  | .nmi => 0xFFFA#16
  | .reset => 0xFFFC#16
  | .irq => 0xFFFE#16

/-- The entry that BRK, IRQ and NMI share (45 R193, 60 R242): the return address, high byte first, and P with bit 5 = 1 and bit 4
as given (1 for BRK, 0 for IRQ and NMI) go to the stack, and I becomes 1. D is unchanged (D34). The PC is the caller's to set: BRK
reads its vector before the pushes, IRQ and NMI after them. -/
def State.takeException (ret : Addr) (b4 : Bool) (s : State) : State :=
  let s1 := (s.pushWord ret).push (s.p.toByteWith b4)
  s1.setP { s1.p with i := true }

/-- Pull a byte into P, as RTI and PLP do (45 R192, 46 R203): bit 5 stays 1, and the pulled bit 4 "does not define register bit 4",
which becomes a free value (93 U15; log entry 3). -/
def State.pullFlags (s : State) : State :=
  let v := s.pull
  let b := v.2.drawBit
  b.2.setP (Flags.ofByte b.1 v.1)

/-- The return from an exception: P, then PC low and PC high, "no +1, unlike RTS" (45 R192). -/
def State.returnFromException (s : State) : State :=
  let w := s.pullFlags.pullWord
  w.2.setPc w.1

/-! ## Cycles -/

/-- The instruction's whole cycle count stands in `ticks`; the tick that runs it pays the first one (40 R81, R85; log entry 13). -/
def State.charge (op : Byte) (cross taken : Bool) (s : State) : State :=
  s.setTicks (cyclesOf op cross taken)

end Sys2Proof.Machine
end

