-- ==== Sys2Proof/Machine/Flags.lean ====
section
/-! DEFINITION. The alu_flags unit (spec 43 R140-R145, R161, spec 44 R170): every result and every flag it computes. -/

namespace Sys2Proof.Machine

/-- `SetNZ(v)` (43 R140). -/
def Flags.setNZ (v : Byte) (p : Flags) : Flags :=
  { p with z := decide (v = 0#8), n := v.msb }

/-- A result byte with its carry and overflow, `(r, C', V')`. -/
structure Sum where
  r : Byte
  c : Bool
  v : Bool
  deriving DecidableEq, Repr

/-- `a[3:0]` (43 R142). -/
def lowNibble (a : Byte) : Nat := a.toNat % 16

/-- `a[7:4]` (43 R142). -/
def highNibble (a : Byte) : Nat := a.toNat / 16

/-- `AddBinary` (43 R141). -/
def addBinary (a m : Byte) (c : Bool) : Sum :=
  let s := a.toNat + m.toNat + c.toNat
  let r := BitVec.ofNat 8 s
  ⟨r, decide (255 < s), a.msb == m.msb && r.msb != a.msb⟩

/-- The low-nibble sum of `AddDecimal` after its decimal correction (43 R142, `al`). -/
def addDecimalLow (a m : Byte) (c : Bool) : Nat :=
  let al := lowNibble a + lowNibble m + c.toNat
  if 10 ≤ al then (al + 6) % 16 + 16 else al

/-- `sint8(a[7:4]*16)`: the high nibble as a two's-complement byte (43 R142). -/
def highSigned (a : Byte) : Int := (BitVec.ofNat 8 (highNibble a * 16)).toInt

/-- `AddDecimal` (43 R142). -/
def addDecimal (a m : Byte) (c : Bool) : Sum :=
  let al := addDecimalLow a m c
  let u := highNibble a * 16 + highNibble m * 16 + al
  let t := highSigned a + highSigned m + (al : Int)
  let u' := if 0xA0 ≤ u then u + 0x60 else u
  ⟨BitVec.ofNat 8 u', decide (0x100 ≤ u'), decide (t < -128) || decide (127 < t)⟩

/-- `SubBinary`, with c = 1 meaning no borrow (43 R143). -/
def subBinary (a m : Byte) (c : Bool) : Sum :=
  let d : Int := (a.toNat : Int) - (m.toNat : Int) - (1 - (c.toNat : Int))
  let r := BitVec.ofInt 8 d
  ⟨r, decide (0 ≤ d), a.msb != m.msb && r.msb != a.msb⟩

/-- The low-nibble difference of `SubDecimal` after its decimal correction (43 R144, `al`). -/
def subDecimalLow (a m : Byte) (c : Bool) : Int :=
  let al : Int := (lowNibble a : Int) - (lowNibble m : Int) + (c.toNat : Int) - 1
  if al < 0 then (al - 6) % 16 - 16 else al

/-- `SubDecimal`: "C and V as in binary mode" (43 R144). -/
def subDecimal (a m : Byte) (c : Bool) : Sum :=
  let t : Int := (highNibble a : Int) * 16 - (highNibble m : Int) * 16 + subDecimalLow a m c
  let t' := if t < 0 then t - 0x60 else t
  let bin := subBinary a m c
  ⟨BitVec.ofInt 8 t', bin.c, bin.v⟩

/-- P after an ADC or SBC result: "A <- r; P.C <- c; P.V <- v; SetNZ(A)" (43 R146, R147). -/
def Flags.ofSum (q : Sum) (p : Flags) : Flags :=
  { Flags.setNZ q.r p with c := q.c, v := q.v }

/-- The addition that the D flag selects (43 R146). -/
def addSelected (a m : Byte) (p : Flags) : Sum :=
  if p.d && Config.decimalEnabled then addDecimal a m p.c else addBinary a m p.c

/-- The subtraction that the D flag selects (43 R147). -/
def subSelected (a m : Byte) (p : Flags) : Sum :=
  if p.d && Config.decimalEnabled then subDecimal a m p.c else subBinary a m p.c

/-- P after `Compare(reg, m)` (43 R145). -/
def Flags.compare (reg m : Byte) (p : Flags) : Flags :=
  { Flags.setNZ (reg - m) p with c := decide (m.toNat ≤ reg.toNat) }

/-- P after BIT (43 R151): N and V from the memory byte, Z from the and-result. -/
def Flags.bitTest (a m : Byte) (p : Flags) : Flags :=
  { p with z := decide (a &&& m = 0#8), n := m.getLsbD 7, v := m.getLsbD 6 }

/-- P after a shift: C is the bit shifted out, then SetNZ of the result (44 R170). -/
def Flags.shifted (out : Bool) (r : Byte) (p : Flags) : Flags :=
  { Flags.setNZ r p with c := out }

/-- `r <- (v << 1) OR c0` (44 R171 with c0 = 0, R173). -/
def shiftLeft (v : Byte) (c0 : Bool) : Byte :=
  (v <<< 1) ||| (BitVec.ofBool c0).setWidth 8

/-- `r <- (v >> 1) OR (c0 << 7)` (44 R172 with c0 = 0, R174). -/
def shiftRight (v : Byte) (c0 : Bool) : Byte :=
  (v >>> 1) ||| ((BitVec.ofBool c0).setWidth 8 <<< 7)

/-- The operations of alu_flags (43 R161). -/
inductive AluOp where
  | add | sub | and | or | xor | bit | cmp | inc | dec | asl | lsr | rol | ror | pass
  deriving DecidableEq, Repr

/-- The unit: "Inputs: op, a, m, c_in, d, p_in. Outputs: r, p_out" (43 R161); c_in and d are those of p_in. INC, DEC, the shifts and
PASS work on m. No rule gives r for BIT and CMP ("BIT has no result byte", 90 C7): the model's r there is `a AND m` and `a - m`
modulo 256, the bytes their Z flag tests, and `State.testOp` drops it (DESIGN CHOICE, log entry 21). -/
def alu (op : AluOp) (a m : Byte) (p : Flags) : Byte × Flags :=
  match op with
  | .add => ((addSelected a m p).r, p.ofSum (addSelected a m p))
  | .sub => ((subSelected a m p).r, p.ofSum (subSelected a m p))
  | .and => (a &&& m, p.setNZ (a &&& m))
  | .or => (a ||| m, p.setNZ (a ||| m))
  | .xor => (a ^^^ m, p.setNZ (a ^^^ m))
  | .bit => (a &&& m, p.bitTest a m)
  | .cmp => (a - m, p.compare a m)
  | .inc => (m + 1#8, p.setNZ (m + 1#8))
  | .dec => (m - 1#8, p.setNZ (m - 1#8))
  | .asl => (shiftLeft m false, p.shifted m.msb (shiftLeft m false))
  | .lsr => (shiftRight m false, p.shifted (m.getLsbD 0) (shiftRight m false))
  | .rol => (shiftLeft m p.c, p.shifted m.msb (shiftLeft m p.c))
  | .ror => (shiftRight m p.c, p.shifted (m.getLsbD 0) (shiftRight m p.c))
  | .pass => (m, p.setNZ m)

end Sys2Proof.Machine
end

