-- ==== Sys2Proof/Machine/Operands.lean ====
section
/-! DEFINITION. The address_mode_resolver (spec 41 R100-R115), the operand access of each instruction class (R114), and the shapes that the meanings are written in. The PC is already past the instruction when these run (spec 40 R84). -/

namespace Sys2Proof.Machine

/-! ## Effective addresses -/

/-- An operand in memory, by its mode (41 R104-R110). -/
inductive MemRef where
  | zp (b : Byte)
  | zpX (b : Byte)
  | zpY (b : Byte)
  | abs (w : Addr)
  | absX (w : Addr)
  | absY (w : Addr)
  | indX (b : Byte)
  | indY (b : Byte)
  deriving DecidableEq, Repr

/-- The resolver's answer for a memory operand: `EA` and `cross` (41 R100). -/
structure Resolved where
  ea : Addr
  cross : Bool
  deriving DecidableEq, Repr

/-- Two addresses lie in different pages: their bits 15:8 differ (00 R14). -/
def pagesDiffer (a b : Addr) : Bool := decide (hiByte a ≠ hiByte b)

/-- `base + zext_16(index)` modulo 2^16, and whether it left the page of `base` (41 R108, R110). -/
def indexed (base : Addr) (index : Byte) : Resolved :=
  ⟨base + zext16 index, pagesDiffer (base + zext16 index) base⟩

/-- A pointer in page 0: its second byte wraps within the page (41 R107, R108). -/
def State.zpPointer (p : Byte) (s : State) : Addr × State :=
  let l := s.busRead (zext16 p)
  let h := l.2.busRead (zext16 (p + 1#8))
  (word h.1 l.1, h.2)

/-- The effective address of a memory operand. Only the two indirect modes make Bus calls (41 R100, R104-R110). -/
def resolve (r : MemRef) (s : State) : Resolved × State :=
  match r with
  | .zp b => (⟨zext16 b, false⟩, s)
  | .zpX b => (⟨zext16 (b + s.x), false⟩, s)
  | .zpY b => (⟨zext16 (b + s.y), false⟩, s)
  | .abs w => (⟨w, false⟩, s)
  | .absX w => (indexed w s.x, s)
  | .absY w => (indexed w s.y, s)
  | .indX b =>
    let q := s.zpPointer (b + s.x)
    (⟨q.1, false⟩, q.2)
  | .indY b =>
    let q := s.zpPointer b
    (indexed q.1 q.2.y, q.2)

/-- Where JMP (ind) takes the high byte of its target (41 R112). -/
def indirectHighAddr (wrap : Bool) (ptr : Addr) : Addr :=
  if loByte ptr = 0xFF#8 ∧ wrap = true then word (hiByte ptr) 0#8 else ptr + 1#16

/-- The target of JMP (ind): two reads at the pointer (41 R112). -/
def resolveIndirect (ptr : Addr) (s : State) : Addr × State :=
  let l := s.busRead ptr
  let h := l.2.busRead (indirectHighAddr s.params.jmpIndPageWrap ptr)
  (word h.1 l.1, h.2)

/-- `PCn + sext_16(b1)` (41 R113). -/
def branchTarget (pcn : Addr) (b : Byte) : Addr := pcn + sext16 b

/-! ## Shapes: what the rules of files 42 to 46 do with their operand -/

/-- An immediate operand: M = b1, no Bus call (41 R103). -/
def onImmediate (op : Byte) (use : Byte → State → State) (m : Byte) (s : State) : Result :=
  .next ((use m s).charge op false false)

/-- Read class: the operand is read exactly once (41 R114). -/
def onRead (op : Byte) (use : Byte → State → State) (r : MemRef) (s : State) : Result :=
  let e := resolve r s
  let m := e.2.busRead e.1.ea
  .next ((use m.1 m.2).charge op e.1.cross false)

/-- Write class: one write at EA, never a read of it (41 R114). -/
def onWrite (op : Byte) (value : State → Byte) (r : MemRef) (s : State) : Result :=
  let e := resolve r s
  .next ((e.2.busWrite e.1.ea (value e.2)).charge op e.1.cross false)

/-- RMW class: one read at EA, then one write of the result there (41 R114, 20 R47). -/
def onModify (op : Byte) (f : AluOp) (r : MemRef) (s : State) : Result :=
  let e := resolve r s
  let m := e.2.busRead e.1.ea
  let q := alu f 0#8 m.1 m.2.p
  .next (((m.2.busWrite e.1.ea q.1).setP q.2).charge op e.1.cross false)

/-- No operand: the instruction names its own registers (41 R101, R102). -/
def onImplied (op : Byte) (use : State → State) (s : State) : Result :=
  .next ((use s).charge op false false)

/-- The branch primitive (45 R180). -/
def onBranch (op : Byte) (cond : Flags → Bool) (b : Byte) (s : State) : Result :=
  let target := branchTarget s.pc b
  if cond s.p then .next ((s.setPc target).charge op (pagesDiffer target s.pc) true)
  else .next (s.charge op false false)

/-- `A` and P from the alu, with A and the operand as its inputs (43 R146-R150, 42 R120). -/
def State.accOp (f : AluOp) (m : Byte) (s : State) : State :=
  let q := alu f s.a m s.p
  (s.setA q.1).setP q.2

/-- P from the alu, its result byte dropped, since no rule gives one: BIT and the compares (43 R151-R154; log entry 21). -/
def State.testOp (f : AluOp) (reg m : Byte) (s : State) : State :=
  s.setP (alu f reg m s.p).2

/-- `X` and P from the alu on one operand (42 R121, R126, R130; 43 R157, R159). -/
def State.xOp (f : AluOp) (m : Byte) (s : State) : State :=
  let q := alu f 0#8 m s.p
  (s.setX q.1).setP q.2

/-- `Y` and P from the alu on one operand (42 R122, R127; 43 R158, R160). -/
def State.yOp (f : AluOp) (m : Byte) (s : State) : State :=
  let q := alu f 0#8 m s.p
  (s.setY q.1).setP q.2

end Sys2Proof.Machine
end

