-- ==== Sys2Proof/Machine/Alu.lean ====
section
/-! DEFINITION. Arithmetic, logic, compare, increment (spec 43). One definition per row of the opcode table, its opcode byte first: the byte names the row's cycle count and penalty (`cyclesOf`). -/

namespace Sys2Proof.Machine

/-! ADC: add with carry (43 R146). -/
def execAdcImm (m : Byte) (s : State) : Result := onImmediate 0x69#8 (State.accOp .add) m s
def execAdcZp (zp : Byte) (s : State) : Result := onRead 0x65#8 (State.accOp .add) (.zp zp) s
def execAdcZpX (zp : Byte) (s : State) : Result := onRead 0x75#8 (State.accOp .add) (.zpX zp) s
def execAdcAbs (addr : Addr) (s : State) : Result := onRead 0x6D#8 (State.accOp .add) (.abs addr) s
def execAdcAbsX (addr : Addr) (s : State) : Result := onRead 0x7D#8 (State.accOp .add) (.absX addr) s
def execAdcAbsY (addr : Addr) (s : State) : Result := onRead 0x79#8 (State.accOp .add) (.absY addr) s
def execAdcIndX (zp : Byte) (s : State) : Result := onRead 0x61#8 (State.accOp .add) (.indX zp) s
def execAdcIndY (zp : Byte) (s : State) : Result := onRead 0x71#8 (State.accOp .add) (.indY zp) s

/-! SBC: subtract with borrow (43 R147). -/
def execSbcImm (m : Byte) (s : State) : Result := onImmediate 0xE9#8 (State.accOp .sub) m s
def execSbcZp (zp : Byte) (s : State) : Result := onRead 0xE5#8 (State.accOp .sub) (.zp zp) s
def execSbcZpX (zp : Byte) (s : State) : Result := onRead 0xF5#8 (State.accOp .sub) (.zpX zp) s
def execSbcAbs (addr : Addr) (s : State) : Result := onRead 0xED#8 (State.accOp .sub) (.abs addr) s
def execSbcAbsX (addr : Addr) (s : State) : Result := onRead 0xFD#8 (State.accOp .sub) (.absX addr) s
def execSbcAbsY (addr : Addr) (s : State) : Result := onRead 0xF9#8 (State.accOp .sub) (.absY addr) s
def execSbcIndX (zp : Byte) (s : State) : Result := onRead 0xE1#8 (State.accOp .sub) (.indX zp) s
def execSbcIndY (zp : Byte) (s : State) : Result := onRead 0xF1#8 (State.accOp .sub) (.indY zp) s

/-! AND: `A <- A AND M; SetNZ(A)` (43 R148). -/
def execAndImm (m : Byte) (s : State) : Result := onImmediate 0x29#8 (State.accOp .and) m s
def execAndZp (zp : Byte) (s : State) : Result := onRead 0x25#8 (State.accOp .and) (.zp zp) s
def execAndZpX (zp : Byte) (s : State) : Result := onRead 0x35#8 (State.accOp .and) (.zpX zp) s
def execAndAbs (addr : Addr) (s : State) : Result := onRead 0x2D#8 (State.accOp .and) (.abs addr) s
def execAndAbsX (addr : Addr) (s : State) : Result := onRead 0x3D#8 (State.accOp .and) (.absX addr) s
def execAndAbsY (addr : Addr) (s : State) : Result := onRead 0x39#8 (State.accOp .and) (.absY addr) s
def execAndIndX (zp : Byte) (s : State) : Result := onRead 0x21#8 (State.accOp .and) (.indX zp) s
def execAndIndY (zp : Byte) (s : State) : Result := onRead 0x31#8 (State.accOp .and) (.indY zp) s

/-! ORA: `A <- A OR M; SetNZ(A)` (43 R149). -/
def execOraImm (m : Byte) (s : State) : Result := onImmediate 0x09#8 (State.accOp .or) m s
def execOraZp (zp : Byte) (s : State) : Result := onRead 0x05#8 (State.accOp .or) (.zp zp) s
def execOraZpX (zp : Byte) (s : State) : Result := onRead 0x15#8 (State.accOp .or) (.zpX zp) s
def execOraAbs (addr : Addr) (s : State) : Result := onRead 0x0D#8 (State.accOp .or) (.abs addr) s
def execOraAbsX (addr : Addr) (s : State) : Result := onRead 0x1D#8 (State.accOp .or) (.absX addr) s
def execOraAbsY (addr : Addr) (s : State) : Result := onRead 0x19#8 (State.accOp .or) (.absY addr) s
def execOraIndX (zp : Byte) (s : State) : Result := onRead 0x01#8 (State.accOp .or) (.indX zp) s
def execOraIndY (zp : Byte) (s : State) : Result := onRead 0x11#8 (State.accOp .or) (.indY zp) s

/-! EOR: `A <- A XOR M; SetNZ(A)` (43 R150). -/
def execEorImm (m : Byte) (s : State) : Result := onImmediate 0x49#8 (State.accOp .xor) m s
def execEorZp (zp : Byte) (s : State) : Result := onRead 0x45#8 (State.accOp .xor) (.zp zp) s
def execEorZpX (zp : Byte) (s : State) : Result := onRead 0x55#8 (State.accOp .xor) (.zpX zp) s
def execEorAbs (addr : Addr) (s : State) : Result := onRead 0x4D#8 (State.accOp .xor) (.abs addr) s
def execEorAbsX (addr : Addr) (s : State) : Result := onRead 0x5D#8 (State.accOp .xor) (.absX addr) s
def execEorAbsY (addr : Addr) (s : State) : Result := onRead 0x59#8 (State.accOp .xor) (.absY addr) s
def execEorIndX (zp : Byte) (s : State) : Result := onRead 0x41#8 (State.accOp .xor) (.indX zp) s
def execEorIndY (zp : Byte) (s : State) : Result := onRead 0x51#8 (State.accOp .xor) (.indY zp) s

/-! BIT: test bits (43 R151). -/
def execBitZp (zp : Byte) (s : State) : Result := onRead 0x24#8 (fun m t => t.testOp .bit t.a m) (.zp zp) s
def execBitAbs (addr : Addr) (s : State) : Result := onRead 0x2C#8 (fun m t => t.testOp .bit t.a m) (.abs addr) s

/-! CMP: `Compare(A, M)` (43 R152). -/
def execCmpImm (m : Byte) (s : State) : Result := onImmediate 0xC9#8 (fun m t => t.testOp .cmp t.a m) m s
def execCmpZp (zp : Byte) (s : State) : Result := onRead 0xC5#8 (fun m t => t.testOp .cmp t.a m) (.zp zp) s
def execCmpZpX (zp : Byte) (s : State) : Result := onRead 0xD5#8 (fun m t => t.testOp .cmp t.a m) (.zpX zp) s
def execCmpAbs (addr : Addr) (s : State) : Result := onRead 0xCD#8 (fun m t => t.testOp .cmp t.a m) (.abs addr) s
def execCmpAbsX (addr : Addr) (s : State) : Result := onRead 0xDD#8 (fun m t => t.testOp .cmp t.a m) (.absX addr) s
def execCmpAbsY (addr : Addr) (s : State) : Result := onRead 0xD9#8 (fun m t => t.testOp .cmp t.a m) (.absY addr) s
def execCmpIndX (zp : Byte) (s : State) : Result := onRead 0xC1#8 (fun m t => t.testOp .cmp t.a m) (.indX zp) s
def execCmpIndY (zp : Byte) (s : State) : Result := onRead 0xD1#8 (fun m t => t.testOp .cmp t.a m) (.indY zp) s

/-! CPX: `Compare(X, M)` (43 R153). -/
def execCpxImm (m : Byte) (s : State) : Result := onImmediate 0xE0#8 (fun m t => t.testOp .cmp t.x m) m s
def execCpxZp (zp : Byte) (s : State) : Result := onRead 0xE4#8 (fun m t => t.testOp .cmp t.x m) (.zp zp) s
def execCpxAbs (addr : Addr) (s : State) : Result := onRead 0xEC#8 (fun m t => t.testOp .cmp t.x m) (.abs addr) s

/-! CPY: `Compare(Y, M)` (43 R154). -/
def execCpyImm (m : Byte) (s : State) : Result := onImmediate 0xC0#8 (fun m t => t.testOp .cmp t.y m) m s
def execCpyZp (zp : Byte) (s : State) : Result := onRead 0xC4#8 (fun m t => t.testOp .cmp t.y m) (.zp zp) s
def execCpyAbs (addr : Addr) (s : State) : Result := onRead 0xCC#8 (fun m t => t.testOp .cmp t.y m) (.abs addr) s

/-! INC: increment memory (43 R155). -/
def execIncZp (zp : Byte) (s : State) : Result := onModify 0xE6#8 .inc (.zp zp) s
def execIncZpX (zp : Byte) (s : State) : Result := onModify 0xF6#8 .inc (.zpX zp) s
def execIncAbs (addr : Addr) (s : State) : Result := onModify 0xEE#8 .inc (.abs addr) s
def execIncAbsX (addr : Addr) (s : State) : Result := onModify 0xFE#8 .inc (.absX addr) s

/-! DEC: decrement memory (43 R156). -/
def execDecZp (zp : Byte) (s : State) : Result := onModify 0xC6#8 .dec (.zp zp) s
def execDecZpX (zp : Byte) (s : State) : Result := onModify 0xD6#8 .dec (.zpX zp) s
def execDecAbs (addr : Addr) (s : State) : Result := onModify 0xCE#8 .dec (.abs addr) s
def execDecAbsX (addr : Addr) (s : State) : Result := onModify 0xDE#8 .dec (.absX addr) s

/-! INX: `X <- X + 1; SetNZ(X)` (43 R157). -/
def execInx (s : State) : Result := onImplied 0xE8#8 (fun t => t.xOp .inc t.x) s

/-! INY: `Y <- Y + 1; SetNZ(Y)` (43 R158). -/
def execIny (s : State) : Result := onImplied 0xC8#8 (fun t => t.yOp .inc t.y) s

/-! DEX: `X <- X - 1; SetNZ(X)` (43 R159). -/
def execDex (s : State) : Result := onImplied 0xCA#8 (fun t => t.xOp .dec t.x) s

/-! DEY: `Y <- Y - 1; SetNZ(Y)` (43 R160). -/
def execDey (s : State) : Result := onImplied 0x88#8 (fun t => t.yOp .dec t.y) s

end Sys2Proof.Machine
end

