-- ==== Sys2Proof/Machine/Control.lean ====
section
/-! DEFINITION. Control transfer (spec 45). One definition per row of the opcode table, its opcode byte first: the byte names the row's cycle count and penalty (`cyclesOf`). -/

namespace Sys2Proof.Machine

/-! BCC: branch if C = 0 (45 R181). -/
def execBcc (rel : Byte) (s : State) : Result := onBranch 0x90#8 (fun q => !q.c) rel s

/-! BCS: branch if C = 1 (45 R182). -/
def execBcs (rel : Byte) (s : State) : Result := onBranch 0xB0#8 (fun q => q.c) rel s

/-! BEQ: branch if Z = 1 (45 R183). -/
def execBeq (rel : Byte) (s : State) : Result := onBranch 0xF0#8 (fun q => q.z) rel s

/-! BMI: branch if N = 1 (45 R184). -/
def execBmi (rel : Byte) (s : State) : Result := onBranch 0x30#8 (fun q => q.n) rel s

/-! BNE: branch if Z = 0 (45 R185). -/
def execBne (rel : Byte) (s : State) : Result := onBranch 0xD0#8 (fun q => !q.z) rel s

/-! BPL: branch if N = 0 (45 R186). -/
def execBpl (rel : Byte) (s : State) : Result := onBranch 0x10#8 (fun q => !q.n) rel s

/-! BVC: branch if V = 0 (45 R187). -/
def execBvc (rel : Byte) (s : State) : Result := onBranch 0x50#8 (fun q => !q.v) rel s

/-! BVS: branch if V = 1 (45 R188). -/
def execBvs (rel : Byte) (s : State) : Result := onBranch 0x70#8 (fun q => q.v) rel s

/-! RTI: return from interrupt (45 R192). -/
def execRti (s : State) : Result := onImplied 0x40#8 State.returnFromException s

/-! JMP, JSR, RTS (45 R189-R191). -/

/-- `PC <- r.target`; the hook is never consulted (45 R189). -/
def execJmpAbs (addr : Addr) (s : State) : Result := .next ((s.setPc addr).charge 0x4C#8 false false)

/-- `PC <- r.target`, the target read at the pointer (45 R189, 41 R112). -/
def execJmpInd (addr : Addr) (s : State) : Result :=
  let t := resolveIndirect addr s
  .next ((t.2.setPc t.1).charge 0x6C#8 false false)

/-- The ordinary call: push `PC - 1`, high byte first, then go to the target (45 R190). -/
def State.callSubroutine (target : Addr) (s : State) : State :=
  (s.pushWord (s.pc - 1#16)).setPc target

/-- JSR: the hook first, with the address of the opcode (PC0 = PCn - 3) as its source (45 R190, D10). -/
def execJsr (addr : Addr) (s : State) : Result :=
  let h := s.callHook addr (s.pc - 3#16)
  match h.1 with
  | .resume a => .next ((h.2.setPc a).charge 0x20#8 false false)
  | .halt => .fault .hostHalt
  | .fallthrough => .next ((h.2.callSubroutine addr).charge 0x20#8 false false)

/-- RTS: `lo <- Pull(); hi <- Pull(); PC <- (hi:lo) + 1` (45 R191). -/
def execRts (s : State) : Result :=
  let w := s.pullWord
  .next ((w.2.setPc (w.1 + 1#16)).charge 0x60#8 false false)

/-! BRK (45 R193). -/

/-- The ordinary BRK, its vector already read: the exception entry with bit 4 = 1 and return address `ret`, then PC from the vector. -/
def State.breakTo (vec ret : Addr) (s : State) : State :=
  (s.takeException ret true).setPc vec

/-- BRK: the IRQ vector is read first; a zero vector consults the hook where BRK_ZERO_HOOK holds. PC0 = PCn - 1, and the return
address is PC0 + 2 (45 R193, D9, D32). -/
def execBrk (s : State) : Result :=
  let pc0 := s.pc - 1#16
  let v := s.read16 Vector.irq.addr
  if v.1 = 0#16 ∧ s.params.brkZeroHook = true then
    let h := v.2.callHook 0#16 pc0
    match h.1 with
    | .resume a => .next ((h.2.setPc a).charge 0x00#8 false false)
    | .halt => .fault .hostHalt
    | .fallthrough => .next ((h.2.breakTo v.1 (pc0 + 2#16)).charge 0x00#8 false false)
  else .next ((v.2.breakTo v.1 (pc0 + 2#16)).charge 0x00#8 false false)

end Sys2Proof.Machine
end

