-- ==== Sys2Proof/Machine/LoadStore.lean ====
section
/-! DEFINITION. Loads, stores and register transfers (spec 42). One definition per row of the opcode table, its opcode byte first: the byte names the row's cycle count and penalty (`cyclesOf`). -/

namespace Sys2Proof.Machine

/-! LDA: load accumulator: `A <- M; SetNZ(A)` (42 R120). -/
def execLdaImm (m : Byte) (s : State) : Result := onImmediate 0xA9#8 (State.accOp .pass) m s
def execLdaZp (zp : Byte) (s : State) : Result := onRead 0xA5#8 (State.accOp .pass) (.zp zp) s
def execLdaZpX (zp : Byte) (s : State) : Result := onRead 0xB5#8 (State.accOp .pass) (.zpX zp) s
def execLdaAbs (addr : Addr) (s : State) : Result := onRead 0xAD#8 (State.accOp .pass) (.abs addr) s
def execLdaAbsX (addr : Addr) (s : State) : Result := onRead 0xBD#8 (State.accOp .pass) (.absX addr) s
def execLdaAbsY (addr : Addr) (s : State) : Result := onRead 0xB9#8 (State.accOp .pass) (.absY addr) s
def execLdaIndX (zp : Byte) (s : State) : Result := onRead 0xA1#8 (State.accOp .pass) (.indX zp) s
def execLdaIndY (zp : Byte) (s : State) : Result := onRead 0xB1#8 (State.accOp .pass) (.indY zp) s

/-! LDX: load X: `X <- M; SetNZ(X)` (42 R121). -/
def execLdxImm (m : Byte) (s : State) : Result := onImmediate 0xA2#8 (State.xOp .pass) m s
def execLdxZp (zp : Byte) (s : State) : Result := onRead 0xA6#8 (State.xOp .pass) (.zp zp) s
def execLdxZpY (zp : Byte) (s : State) : Result := onRead 0xB6#8 (State.xOp .pass) (.zpY zp) s
def execLdxAbs (addr : Addr) (s : State) : Result := onRead 0xAE#8 (State.xOp .pass) (.abs addr) s
def execLdxAbsY (addr : Addr) (s : State) : Result := onRead 0xBE#8 (State.xOp .pass) (.absY addr) s

/-! LDY: load Y: `Y <- M; SetNZ(Y)` (42 R122). -/
def execLdyImm (m : Byte) (s : State) : Result := onImmediate 0xA0#8 (State.yOp .pass) m s
def execLdyZp (zp : Byte) (s : State) : Result := onRead 0xA4#8 (State.yOp .pass) (.zp zp) s
def execLdyZpX (zp : Byte) (s : State) : Result := onRead 0xB4#8 (State.yOp .pass) (.zpX zp) s
def execLdyAbs (addr : Addr) (s : State) : Result := onRead 0xAC#8 (State.yOp .pass) (.abs addr) s
def execLdyAbsX (addr : Addr) (s : State) : Result := onRead 0xBC#8 (State.yOp .pass) (.absX addr) s

/-! STA: store accumulator: `MemWrite(EA, 1, A)` (42 R123). -/
def execStaZp (zp : Byte) (s : State) : Result := onWrite 0x85#8 State.a (.zp zp) s
def execStaZpX (zp : Byte) (s : State) : Result := onWrite 0x95#8 State.a (.zpX zp) s
def execStaAbs (addr : Addr) (s : State) : Result := onWrite 0x8D#8 State.a (.abs addr) s
def execStaAbsX (addr : Addr) (s : State) : Result := onWrite 0x9D#8 State.a (.absX addr) s
def execStaAbsY (addr : Addr) (s : State) : Result := onWrite 0x99#8 State.a (.absY addr) s
def execStaIndX (zp : Byte) (s : State) : Result := onWrite 0x81#8 State.a (.indX zp) s
def execStaIndY (zp : Byte) (s : State) : Result := onWrite 0x91#8 State.a (.indY zp) s

/-! STX: store X: `MemWrite(EA, 1, X)` (42 R124). -/
def execStxZp (zp : Byte) (s : State) : Result := onWrite 0x86#8 State.x (.zp zp) s
def execStxZpY (zp : Byte) (s : State) : Result := onWrite 0x96#8 State.x (.zpY zp) s
def execStxAbs (addr : Addr) (s : State) : Result := onWrite 0x8E#8 State.x (.abs addr) s

/-! STY: store Y: `MemWrite(EA, 1, Y)` (42 R125). -/
def execStyZp (zp : Byte) (s : State) : Result := onWrite 0x84#8 State.y (.zp zp) s
def execStyZpX (zp : Byte) (s : State) : Result := onWrite 0x94#8 State.y (.zpX zp) s
def execStyAbs (addr : Addr) (s : State) : Result := onWrite 0x8C#8 State.y (.abs addr) s

/-! TAX: `X <- A; SetNZ(X)` (42 R126). -/
def execTax (s : State) : Result := onImplied 0xAA#8 (fun t => t.xOp .pass t.a) s

/-! TAY: `Y <- A; SetNZ(Y)` (42 R127). -/
def execTay (s : State) : Result := onImplied 0xA8#8 (fun t => t.yOp .pass t.a) s

/-! TXA: `A <- X; SetNZ(A)` (42 R128). -/
def execTxa (s : State) : Result := onImplied 0x8A#8 (fun t => t.accOp .pass t.x) s

/-! TYA: `A <- Y; SetNZ(A)` (42 R129). -/
def execTya (s : State) : Result := onImplied 0x98#8 (fun t => t.accOp .pass t.y) s

/-! TSX: `X <- S; SetNZ(X)` (42 R130). -/
def execTsx (s : State) : Result := onImplied 0xBA#8 (fun t => t.xOp .pass t.sp) s

/-! TXS: `S <- X`, no flag (42 R131). -/
def execTxs (s : State) : Result := onImplied 0x9A#8 (fun t => t.setSp t.x) s

end Sys2Proof.Machine
end

