-- ==== Sys2Proof/Machine/Shift.lean ====
section
/-! DEFINITION. Shifts and rotates (spec 44). One definition per row of the opcode table, its opcode byte first: the byte names the row's cycle count and penalty (`cyclesOf`). -/

namespace Sys2Proof.Machine

/-! ASL: arithmetic shift left (44 R171). -/
def execAslZp (zp : Byte) (s : State) : Result := onModify 0x06#8 .asl (.zp zp) s
def execAslZpX (zp : Byte) (s : State) : Result := onModify 0x16#8 .asl (.zpX zp) s
def execAslAbs (addr : Addr) (s : State) : Result := onModify 0x0E#8 .asl (.abs addr) s
def execAslAbsX (addr : Addr) (s : State) : Result := onModify 0x1E#8 .asl (.absX addr) s
def execAslAcc (s : State) : Result := onImplied 0x0A#8 (fun t => t.accOp .asl t.a) s

/-! LSR: logical shift right (44 R172). -/
def execLsrZp (zp : Byte) (s : State) : Result := onModify 0x46#8 .lsr (.zp zp) s
def execLsrZpX (zp : Byte) (s : State) : Result := onModify 0x56#8 .lsr (.zpX zp) s
def execLsrAbs (addr : Addr) (s : State) : Result := onModify 0x4E#8 .lsr (.abs addr) s
def execLsrAbsX (addr : Addr) (s : State) : Result := onModify 0x5E#8 .lsr (.absX addr) s
def execLsrAcc (s : State) : Result := onImplied 0x4A#8 (fun t => t.accOp .lsr t.a) s

/-! ROL: rotate left through carry (44 R173). -/
def execRolZp (zp : Byte) (s : State) : Result := onModify 0x26#8 .rol (.zp zp) s
def execRolZpX (zp : Byte) (s : State) : Result := onModify 0x36#8 .rol (.zpX zp) s
def execRolAbs (addr : Addr) (s : State) : Result := onModify 0x2E#8 .rol (.abs addr) s
def execRolAbsX (addr : Addr) (s : State) : Result := onModify 0x3E#8 .rol (.absX addr) s
def execRolAcc (s : State) : Result := onImplied 0x2A#8 (fun t => t.accOp .rol t.a) s

/-! ROR: rotate right through carry (44 R174). -/
def execRorZp (zp : Byte) (s : State) : Result := onModify 0x66#8 .ror (.zp zp) s
def execRorZpX (zp : Byte) (s : State) : Result := onModify 0x76#8 .ror (.zpX zp) s
def execRorAbs (addr : Addr) (s : State) : Result := onModify 0x6E#8 .ror (.abs addr) s
def execRorAbsX (addr : Addr) (s : State) : Result := onModify 0x7E#8 .ror (.absX addr) s
def execRorAcc (s : State) : Result := onImplied 0x6A#8 (fun t => t.accOp .ror t.a) s

end Sys2Proof.Machine
end

