-- ==== Sys2Proof/Machine/StackFlags.lean ====
section
/-! DEFINITION. Stack, flag and no-operation instructions (spec 46). One definition per row of the opcode table, its opcode byte first: the byte names the row's cycle count and penalty (`cyclesOf`). -/

namespace Sys2Proof.Machine

/-! PHA: `Push(A)` (46 R200). -/
def execPha (s : State) : Result := onImplied 0x48#8 (fun t => t.push t.a) s

/-! PHP: `Push(P OR 0x30)` (46 R201). -/
def execPhp (s : State) : Result := onImplied 0x08#8 (fun t => t.push (t.p.toByteWith true)) s

/-! PLA: `A <- Pull(); SetNZ(A)` (46 R202). -/
def execPla (s : State) : Result := onImplied 0x68#8 (fun t => t.pull.2.accOp .pass t.pull.1) s

/-! PLP: pull P (46 R203). -/
def execPlp (s : State) : Result := onImplied 0x28#8 State.pullFlags s

/-! CLC: `P.C <- 0` (46 R204). -/
def execClc (s : State) : Result := onImplied 0x18#8 (fun t => t.setP { t.p with c := false }) s

/-! CLD: `P.D <- 0` (46 R205). -/
def execCld (s : State) : Result := onImplied 0xD8#8 (fun t => t.setP { t.p with d := false }) s

/-! CLI: `P.I <- 0` (46 R206). -/
def execCli (s : State) : Result := onImplied 0x58#8 (fun t => t.setP { t.p with i := false }) s

/-! CLV: `P.V <- 0` (46 R207). -/
def execClv (s : State) : Result := onImplied 0xB8#8 (fun t => t.setP { t.p with v := false }) s

/-! SEC: `P.C <- 1` (46 R208). -/
def execSec (s : State) : Result := onImplied 0x38#8 (fun t => t.setP { t.p with c := true }) s

/-! SED: `P.D <- 1` (46 R209). -/
def execSed (s : State) : Result := onImplied 0xF8#8 (fun t => t.setP { t.p with d := true }) s

/-! SEI: `P.I <- 1` (46 R210). -/
def execSei (s : State) : Result := onImplied 0x78#8 (fun t => t.setP { t.p with i := true }) s

/-! NOP: nothing (46 R211). -/
def execNop (s : State) : Result := onImplied 0xEA#8 (fun t => t) s

end Sys2Proof.Machine
end

