-- ==== Sys2Proof/Machine/Fetch.lean ====
section
/-! DEFINITION. The fetch_unit (spec 40 R84): the Bus reads that bring in one instruction, and the decoder's answer on them. -/

namespace Sys2Proof.Machine

/-- `n` Bus reads at `a`, `a + 1`, …, modulo 2^16. -/
def State.readBytes : Nat → Addr → State → List Byte × State
  | 0, _, s => ([], s)
  | n + 1, a, s =>
    let b := s.busRead a
    let r := b.2.readBytes n (a + 1#16)
    (b.1 :: r.1, r.2)

/-- The bytes of the instruction at `a`: the opcode, then the operand bytes its descriptor asks for, none after an illegal
opcode (40 R84, R86; 47 R222). -/
def State.readInstruction (a : Addr) (s : State) : List Byte × State :=
  let op := s.busRead a
  match descriptorOf op.1 with
  | none => ([op.1], op.2)
  | some d =>
    let r := op.2.readBytes d.mode.operandBytes (a + 1#16)
    (op.1 :: r.1, r.2)

/-- How many bytes an instruction is long (30 R60). -/
def instrLength (i : Instr) : Nat := 1 + i.mode.operandBytes

/-- Fetch and decode at the PC (40 R84). -/
def fetch (s : State) : Except DecodeError Instr × State :=
  let f := s.readInstruction s.pc
  match decode f.1 with
  | .ok (i, _) => (.ok i, f.2)
  | .error e => (.error e, f.2)

end Sys2Proof.Machine
end

