-- ==== Sys2Proof/Machine/Driver.lean ====
section
/-! DEFINITION. The execution driver: tick, step and run, and the policy for illegal opcodes and faulted modes (spec 40 R81-R89). -/

namespace Sys2Proof.Machine

/-- What an entry point refuses before it does anything: every one under STRICT_STACK (40 R87), and tick, step and run from a
faulted mode (40 R88). -/
def State.entryRefusal (s : State) : Option Refusal :=
  if s.params.strictStack then some .strictStack
  else
    match s.mode with
    | .faulted _ => some .faultedMode
    | .reset => none
    | .executing => none

/-- An illegal opcode at `pc0`: "PC advances past the illegal byte", the mode is Faulted(Illegal), 0 cycles (40 R86). -/
def State.illegalAt (pc0 : Addr) (s : State) : State :=
  (((s.setPc (pc0 + 1#16)).setMode (.faulted .illegal)).setTicks 0).setStatus .illegal

/-- The end of a first tick: `ticks <- max(c - 1, 0)`, Status Ok (40 R81). -/
def payTick : Result → Result
  | .next t => .next ((t.setTicks (t.ticks - 1)).setStatus .ok)
  | .fault f => .fault f
  | .refused r => .refused r

/-- `Exec()`: fetch, advance the PC past the whole instruction, run its rule (40 R84, R86). -/
def startInstruction (s : State) : Result :=
  let f := fetch s
  match f.1 with
  | .ok i => payTick (exec i (f.2.setPc (s.pc + BitVec.ofNat 16 (instrLength i))))
  | .error _ => .next (f.2.illegalAt s.pc)

/-- `tick()` (40 R81). -/
def tick (s : State) : Result :=
  match s.entryRefusal with
  | some r => .refused r
  | none =>
    if 0 < s.ticks then .next ((s.setTicks (s.ticks - 1)).setStatus .ok)
    else startInstruction (s.setMode .executing)

/-- `ticks <- 0`: step "drives its remaining ticks" (40 R82). -/
def driveOut : Result → Result
  | .next t => .next (t.setTicks 0)
  | .fault f => .fault f
  | .refused r => .refused r

/-- `step()` (40 R82). -/
def stepCall (s : State) : Result :=
  match s.entryRefusal with
  | some r => .refused r
  | none =>
    if 0 < s.ticks then .next ((s.setTicks 0).setStatus .ok)
    else driveOut (tick s)

/-- `run()` under fuel: "loop: st <- step(); if st ≠ Ok: return st" (40 R83). `none` is the fuel running out, which "is not an
outcome of the chip" (log entry 16). -/
def run : Nat → State → Option Result
  | 0, _ => none
  | n + 1, s =>
    match stepCall s with
    | .next t =>
      match t.status with
      | .ok => run n t
      | .stackFault => some (.next t)
      | .illegal => some (.next t)
    | .fault f => some (.fault f)
    | .refused r => some (.refused r)

/-- The host places bytes in the array, one after another from `a` on. -/
def State.placeBytes : List Byte → Addr → State → State
  | [], _, s => s
  | v :: rest, a, s => (s.poke a v).placeBytes rest (a + 1#16)

/-- Make the state one whose next step fetches from the array at the PC: no refusal, no instruction in progress, and nothing
mapped over the three bytes at the PC (log entry 14). What already is so stays as it is. -/
def State.readyToFetch (s : State) : State :=
  let clear := !(s.bus.isMapped s.pc || s.bus.isMapped (s.pc + 1#16) || s.bus.isMapped (s.pc + 2#16))
  { s with
    ticks := 0
    mode := match s.mode with | .faulted _ => .executing | .reset => .reset | .executing => .executing
    params := { s.params with strictStack := false }
    bus := { s.bus with mapped := if clear then s.bus.mapped else [] } }

/-- A word of the opcode table in the three bytes at the PC, ready to be fetched. -/
def State.placeTableWord (s : State) (nbits w : Nat) : State :=
  s.readyToFetch.placeBytes (tableBytes nbits w) s.pc

end Sys2Proof.Machine
end

