-- ==== Sys2Proof/Machine/Step.lean ====
section
/-! DEFINITION. One step of the machine: the core's `step()` (spec 40 R82), and the placing of one instruction for it. -/

namespace Sys2Proof.Machine

/-- "executes exactly one full instruction (drives tick until the instruction completes)" (40 R82). -/
def step : State → Host.Outcome State Fault Refusal := stepCall

/-- The state with the instruction of a table word at the PC, so that the very next step fetches and runs it. -/
def State.withFetchWord (s : State) (nbits w : Nat) : State := s.placeTableWord nbits w

end Sys2Proof.Machine
end

