-- ==== Sys2Proof/Machine/Disassembler.lean ====
section
/-! DEFINITION. The disassembler (spec 47), over the same descriptor table as execution. Its text is the spec's example format; "only the mnemonic, the mode and the length are normative" (47 R221; log entry 17). -/

namespace Sys2Proof.Machine

/-- A mnemonic "in upper case" (47 R221). -/
def mnemonicText : Mnemonic → List Char
  | .lda => ['L', 'D', 'A']
  | .ldx => ['L', 'D', 'X']
  | .ldy => ['L', 'D', 'Y']
  | .sta => ['S', 'T', 'A']
  | .stx => ['S', 'T', 'X']
  | .sty => ['S', 'T', 'Y']
  | .tax => ['T', 'A', 'X']
  | .tay => ['T', 'A', 'Y']
  | .txa => ['T', 'X', 'A']
  | .tya => ['T', 'Y', 'A']
  | .tsx => ['T', 'S', 'X']
  | .txs => ['T', 'X', 'S']
  | .adc => ['A', 'D', 'C']
  | .sbc => ['S', 'B', 'C']
  | .and => ['A', 'N', 'D']
  | .ora => ['O', 'R', 'A']
  | .eor => ['E', 'O', 'R']
  | .bit => ['B', 'I', 'T']
  | .cmp => ['C', 'M', 'P']
  | .cpx => ['C', 'P', 'X']
  | .cpy => ['C', 'P', 'Y']
  | .inc => ['I', 'N', 'C']
  | .dec => ['D', 'E', 'C']
  | .inx => ['I', 'N', 'X']
  | .iny => ['I', 'N', 'Y']
  | .dex => ['D', 'E', 'X']
  | .dey => ['D', 'E', 'Y']
  | .asl => ['A', 'S', 'L']
  | .lsr => ['L', 'S', 'R']
  | .rol => ['R', 'O', 'L']
  | .ror => ['R', 'O', 'R']
  | .bcc => ['B', 'C', 'C']
  | .bcs => ['B', 'C', 'S']
  | .beq => ['B', 'E', 'Q']
  | .bmi => ['B', 'M', 'I']
  | .bne => ['B', 'N', 'E']
  | .bpl => ['B', 'P', 'L']
  | .bvc => ['B', 'V', 'C']
  | .bvs => ['B', 'V', 'S']
  | .jmp => ['J', 'M', 'P']
  | .jsr => ['J', 'S', 'R']
  | .rts => ['R', 'T', 'S']
  | .rti => ['R', 'T', 'I']
  | .brk => ['B', 'R', 'K']
  | .pha => ['P', 'H', 'A']
  | .php => ['P', 'H', 'P']
  | .pla => ['P', 'L', 'A']
  | .plp => ['P', 'L', 'P']
  | .clc => ['C', 'L', 'C']
  | .cld => ['C', 'L', 'D']
  | .cli => ['C', 'L', 'I']
  | .clv => ['C', 'L', 'V']
  | .sec => ['S', 'E', 'C']
  | .sed => ['S', 'E', 'D']
  | .sei => ['S', 'E', 'I']
  | .nop => ['N', 'O', 'P']

/-- One upper-case hexadecimal digit. -/
def hexDigit (n : Nat) : Char :=
  ['0', '1', '2', '3', '4', '5', '6', '7', '8', '9', 'A', 'B', 'C', 'D', 'E', 'F'].getD (n % 16) '0'

/-- `$nn`: "2 digits for a byte" (47 R221). -/
def hexByte (b : Byte) : List Char := ['$', hexDigit (b.toNat / 16), hexDigit b.toNat]

/-- `$nnnn`: "4 for an address" (47 R221). -/
def hexAddr (w : Addr) : List Char :=
  ['$', hexDigit (w.toNat / 4096), hexDigit (w.toNat / 256), hexDigit (w.toNat / 16), hexDigit w.toNat]

/-- The operand of the instruction at `a` in the syntax of 30 R69; a REL operand is shown as its target (47 R221). -/
def operandText (mode : AddrMode) (a : Addr) (b1 b2 : Byte) : List Char :=
  match mode with
  | .imp => []
  | .stack => []
  | .acc => [' ', 'A']
  | .imm => [' ', '#'] ++ hexByte b1
  | .zp => ' ' :: hexByte b1
  | .zpX => ' ' :: hexByte b1 ++ [',', 'X']
  | .zpY => ' ' :: hexByte b1 ++ [',', 'Y']
  | .abs => ' ' :: hexAddr (word b2 b1)
  | .absX => ' ' :: hexAddr (word b2 b1) ++ [',', 'X']
  | .absY => ' ' :: hexAddr (word b2 b1) ++ [',', 'Y']
  | .ind => [' ', '('] ++ hexAddr (word b2 b1) ++ [')']
  | .indX => [' ', '('] ++ hexByte b1 ++ [',', 'X', ')']
  | .indY => [' ', '('] ++ hexByte b1 ++ [')', ',', 'Y']
  | .rel => ' ' :: hexAddr (a + 2#16 + sext16 b1)

/-- The marker of an illegal opcode (47 R223). -/
def illegalMarker : List Char := ['?', '?', '?']

/-- "fixed-capacity": 16 bytes including any terminator (47 R224). -/
def textCapacity : Nat := 16

/-- What the disassembler writes for the bytes of one instruction at `a` (47 R221, R223). -/
def instructionText (a : Addr) (bytes : List Byte) : List Char × Nat :=
  match descriptorOf (bytes.getD 0 0#8) with
  | none => (illegalMarker, 1)
  | some d => (mnemonicText d.mnemonic ++ operandText d.mode a (bytes.getD 1 0#8) (bytes.getD 2 0#8), d.length)

/-- `disassemble(address) → (text, length)`: exactly `length` Bus reads, nothing else (47 R220, R222). -/
def disassemble (a : Addr) (s : State) : (List Char × Nat) × State :=
  let f := s.readInstruction a
  (instructionText a f.1, f.2)

/-- A contiguous listing of `n` instructions: each starts at the previous start plus its length (47 R225). -/
def listing : Nat → Addr → State → List (Addr × List Char) × State
  | 0, _, s => ([], s)
  | n + 1, a, s =>
    let d := disassemble a s
    let r := listing n (a + BitVec.ofNat 16 d.1.2) d.2
    ((a, d.1.1) :: r.1, r.2)

end Sys2Proof.Machine
end

