-- ==== Sys2Proof/Machine/Interrupt.lean ====
section
/-! DEFINITION. The interrupt_sequencer (spec 60, 70): RESET, NMI and IRQ as host calls, and the vector accessors (spec 20 R54). -/

namespace Sys2Proof.Machine

/-- `Enter(vaddr)`: push PC and P with bit 4 = 0, set I, then read the vector (60 R242). The hook is not consulted; ticks and the
mode stay (60 R245, R246). -/
def State.enter (v : Vector) (s : State) : State :=
  let t := (s.takeException s.pc false).read16 v.addr
  t.2.setPc t.1

/-- `irq()`: "if P.I = 1: return", else `Enter(0xFFFE)` (60 R243). Refused under STRICT_STACK (40 R87; log entry 11). -/
def irqCall (s : State) : Result :=
  if s.params.strictStack then .refused .strictStack
  else .next (if s.p.i then s else s.enter .irq)

/-- `nmi()`: `Enter(0xFFFA)`, "always taken regardless of Interrupt-disable" (60 R244). Refused under STRICT_STACK. -/
def nmiCall (s : State) : Result :=
  if s.params.strictStack then .refused .strictStack
  else .next (s.enter .nmi)

/-- What reset() leaves unspecified, drawn: A, X, Y, S, C, Z, D, V, N and bit 4 (70 R270, 10 R33; log entry 2). I becomes 1. -/
def State.drawRegisters (s : State) : State :=
  let n := s.draws
  { s with
    a := Config.freeByte n
    x := Config.freeByte (n + 1)
    y := Config.freeByte (n + 2)
    sp := Config.freeByte (n + 3)
    p := ⟨Config.freeBit n, Config.freeBit (n + 1), true, Config.freeBit (n + 2), Config.freeBit (n + 3),
          Config.freeBit (n + 4), Config.freeBit (n + 5)⟩
    draws := n + 6 }

/-- `reset()` (70 R270). It cannot fail, and it leaves any faulted mode. -/
def resetCall (s : State) : State :=
  let t := ((s.setTicks 0).setMode .reset).drawRegisters.read16 Vector.reset.addr
  t.2.setPc t.1

/-- `getVector(kind)` (20 R54). -/
def getVector (v : Vector) (s : State) : Addr × State := s.read16 v.addr

/-- `setVector(kind, a)`: low byte, then high byte (20 R54). -/
def setVector (v : Vector) (w : Addr) (s : State) : State :=
  (s.busWrite v.addr (loByte w)).busWrite (v.addr + 1#16) (hiByte w)

end Sys2Proof.Machine
end

