-- ==== Sys2Proof/Machine/HostCalls.lean ====
section
/-! DEFINITION. Everything the host can do to the machine between two calls (spec 60 R255, 10 R34), as one type of calls and one function. -/

namespace Sys2Proof.Machine

/-- The register file as the host reads and writes it: six registers (10 R20, R34). -/
structure RegFile where
  a : Byte
  x : Byte
  y : Byte
  sp : Byte
  p : Byte
  pc : Addr
  deriving DecidableEq, Repr

/-- The host reads the register file; P's bit 5 reads as 1 (10 R24, R34). -/
def State.registers (s : State) : RegFile :=
  ⟨s.a, s.x, s.y, s.sp, s.p.toByte, s.pc⟩

/-- The host writes "any value into any register" (10 R34); bit 5 of P is not stored (10 R24; log entry 19). -/
def State.writeRegisters (r : RegFile) (s : State) : State :=
  { s with a := r.a, x := r.x, y := r.y, sp := r.sp, p := Flags.ofByte (r.p.getLsbD 4) r.p, pc := r.pc }

/-- The host swaps its Bus callbacks between calls (60 R255, "runtime reconfiguration"): another mapping, other answers. -/
def State.configureBus (mapped : List Range) (answers : List Byte) (hooks : List HookReply) (s : State) : State :=
  s.setBus { s.bus with mapped := mapped, answers := answers, hooks := hooks }

/-- The host's calls and moves (60 R255). `run` is `step` repeated. -/
inductive HostCall where
  | tick
  | step
  | reset
  | nmi
  | irq
  | getVector (v : Vector)
  | setVector (v : Vector) (w : Addr)
  | disassemble (a : Addr)
  | writeRegisters (r : RegFile)
  | writeMemory (a : Addr) (v : Byte)
  | configureBus (mapped : List Range) (answers : List Byte) (hooks : List HookReply)
  deriving DecidableEq, Repr

/-- What a call leaves; what it answers beside (a vector, a text) is `getVector`'s and `disassemble`'s own first component. -/
def perform (c : HostCall) (s : State) : Result :=
  match c with
  | .tick => Sys2Proof.Machine.tick s
  | .step => stepCall s
  | .reset => .next (resetCall s)
  | .nmi => nmiCall s
  | .irq => irqCall s
  | .getVector v => .next (Sys2Proof.Machine.getVector v s).2
  | .setVector v w => .next (Sys2Proof.Machine.setVector v w s)
  | .disassemble a => .next (Sys2Proof.Machine.disassemble a s).2
  | .writeRegisters r => .next (s.writeRegisters r)
  | .writeMemory a v => .next (s.poke a v)
  | .configureBus m a h => .next (s.configureBus m a h)

/-- Several calls, in the order the host makes them: "two events can never be simultaneous" (60 R247). -/
def performAll : List HostCall → State → Result
  | [], s => .next s
  | c :: rest, s =>
    match perform c s with
    | .next t => performAll rest t
    | .fault f => .fault f
    | .refused r => .refused r

end Sys2Proof.Machine
end

