-- ==== Sys2Proof/Safety.lean ====
section
/-! DEFINITION. The words that the claims are stated in: the invariant, an instruction's operand as its mode gives it, what it may store to, and what it costs. Written from the syntax and the spec's tables, not from the meanings. -/

namespace Sys2Proof.Machine

/-- What every call of the host keeps. -/
structure State.Inv (s : State) : Prop where
  /-- memory is in its canonical form -/
  memWf : s.bus.mem.wf = true
  /-- no instruction takes more than 7 cycles (70 R282), so after its first tick at most 6 are owed -/
  ticksBound : s.ticks ≤ 6
  /-- "No rule of the spec produces StackFault" (40 R87) -/
  noStackFaultMode : s.mode ≠ .faulted .stackFault
  /-- "No rule of the spec produces StackFault" (40 R87) -/
  noStackFaultStatus : s.status ≠ .stackFault

/-- The host is the reference Bus of 20 R55: a flat memory, and a hook that returns 0. -/
def State.OnReferenceBus (s : State) : Prop :=
  s.bus.mapped = [] ∧ s.bus.hooks = []

/-- Two states agree on the registers, P, the mode, the Status and the arguments. -/
structure State.SameRegisters (s t : State) : Prop where
  a : t.a = s.a
  x : t.x = s.x
  y : t.y = s.y
  sp : t.sp = s.sp
  pc : t.pc = s.pc
  p : t.p = s.p
  mode : t.mode = s.mode
  status : t.status = s.status
  params : t.params = s.params

/-- Every byte of memory reads as before. -/
def State.SameMemory (s t : State) : Prop :=
  ∀ a : Addr, t.peek a = s.peek a

/-- Every byte of memory outside some addresses reads as before. -/
def State.SameMemoryExcept (stored : List Addr) (s t : State) : Prop :=
  ∀ a : Addr, a ∉ stored → t.peek a = s.peek a

end Sys2Proof.Machine

namespace Sys2Proof

open Sys2Proof.Machine

/-- The memory operand of an instruction, by its mode (41 R104-R110): `none` where the mode names no memory operand. -/
def Instr.memRef? (i : Instr) : Option MemRef :=
  let b : Byte := BitVec.ofNat 8 i.operand
  let w : Addr := BitVec.ofNat 16 i.operand
  match i.mode with
  | .zp => some (.zp b)
  | .zpX => some (.zpX b)
  | .zpY => some (.zpY b)
  | .abs => some (.abs w)
  | .absX => some (.absX w)
  | .absY => some (.absY w)
  | .indX => some (.indX b)
  | .indY => some (.indY b)
  | .imm | .ind | .rel | .acc | .imp | .stack => none

/-- What reading an operand gives: the byte M, whether indexing crossed a page, and the state after the Bus reads. -/
structure OperandRead where
  value : Byte
  cross : Bool
  after : State

/-- The operand M of a read-class instruction (41 R114): b1 for IMM, else the byte at EA. -/
def Instr.readOperand (i : Instr) (s : State) : OperandRead :=
  match i.memRef? with
  | some r =>
    let e := resolve r s
    let m := e.2.busRead e.1.ea
    ⟨m.1, e.1.cross, m.2⟩
  | none => ⟨BitVec.ofNat 8 i.operand, false, s⟩

/-- The effective address of an instruction's memory operand, if it has one. -/
def Instr.effective (i : Instr) (s : State) : List Addr :=
  match i.memRef? with
  | some r => [(resolve r s).1.ea]
  | none => []

/-- The addresses an instruction may store to: EA for the write and RMW classes (41 R114), the stack for the pushing instructions
(00 R11), nothing for every other. -/
def Instr.storedAddrs (i : Instr) (s : State) : List Addr :=
  match i.mnemonic with
  | .sta | .stx | .sty | .inc | .dec | .asl | .lsr | .rol | .ror => i.effective s
  | .pha | .php => [stackAddr s.sp]
  | .jsr => [stackAddr s.sp, stackAddr (s.sp - 1#8)]
  | .brk => [stackAddr s.sp, stackAddr (s.sp - 1#8), stackAddr (s.sp - 2#8)]
  | _ => []

/-- The tested condition of a branch (45 R181-R188); no other instruction has one. -/
def Mnemonic.condition (m : Mnemonic) (p : Flags) : Bool :=
  match m with
  | .bcc => !p.c
  | .bcs => p.c
  | .beq => p.z
  | .bmi => p.n
  | .bne => !p.z
  | .bpl => !p.n
  | .bvc => !p.v
  | .bvs => p.v
  | _ => false

/-- The mnemonic is one of the eight branches. -/
def Mnemonic.isBranch (m : Mnemonic) : Bool :=
  [Mnemonic.bcc, .bcs, .beq, .bmi, .bne, .bpl, .bvc, .bvs].contains m

/-- "the instructions LDA, LDX, LDY, ADC, SBC, AND, ORA, EOR and CMP" of the page-crossing penalty (41 R111). -/
def Mnemonic.paysForCrossing (m : Mnemonic) : Bool :=
  [Mnemonic.lda, .ldx, .ldy, .adc, .sbc, .and, .ora, .eor, .cmp].contains m

/-- The base cycle count by class and mode (70 R282). -/
def Instr.baseCycles (i : Instr) : Nat :=
  match i.mnemonic with
  | .sta | .stx | .sty =>
    match i.mode with
    | .zp => 3
    | .zpX | .zpY | .abs => 4
    | .absX | .absY => 5
    | _ => 6
  | .inc | .dec | .asl | .lsr | .rol | .ror =>
    match i.mode with
    | .acc => 2
    | .zp => 5
    | .zpX | .abs => 6
    | _ => 7
  | .jmp => if i.mode = .abs then 3 else 5
  | .jsr | .rts | .rti => 6
  | .brk => 7
  | .pha | .php => 3
  | .pla | .plp => 4
  | _ =>
    match i.mode with
    | .zp => 3
    | .zpX | .zpY | .abs | .absX | .absY => 4
    | .indX => 6
    | .indY => 5
    | _ => 2

/-- The cycle count of one instruction run at `s`, with PC = PCn: base plus penalties (40 R85, 41 R111, 45 R180). -/
def Instr.cycleCount (i : Instr) (s : State) : Nat :=
  let taken := i.mnemonic.condition s.p
  let target := branchTarget s.pc (BitVec.ofNat 8 i.operand)
  i.baseCycles +
    (if i.mnemonic.isBranch then
      (if taken then 1 + (pagesDiffer target s.pc).toNat else 0)
    else if i.mnemonic.paysForCrossing then (i.readOperand s).cross.toNat
    else 0)

/-- The byte a read-modify-write gives for the byte `m` and the carry `c`, as a number (43 R155, R156; 44 R171-R174). -/
def Mnemonic.rmwResult (f : Mnemonic) (m c : Nat) : Nat :=
  match f with
  | .inc => (m + 1) % 256
  | .dec => (m + 255) % 256
  | .asl => 2 * m % 256
  | .lsr => m / 2
  | .rol => (2 * m + c) % 256
  | .ror => m / 2 + 128 * c
  | _ => m

/-- The carry a read-modify-write leaves: the bit a shift moves out; INC and DEC leave it alone (44 R170, 43 R155). -/
def Mnemonic.rmwCarry (f : Mnemonic) (m : Nat) (c : Bool) : Bool :=
  match f with
  | .asl | .rol => decide (128 ≤ m)
  | .lsr | .ror => decide (m % 2 = 1)
  | _ => c

/-- The mnemonic is of the RMW class (41 R114). -/
def Mnemonic.isRmw (m : Mnemonic) : Bool :=
  [Mnemonic.asl, .lsr, .rol, .ror, .inc, .dec].contains m

/-- The mnemonic is of the read class (41 R114). -/
def Mnemonic.isRead (m : Mnemonic) : Bool :=
  [Mnemonic.lda, .ldx, .ldy, .adc, .sbc, .and, .ora, .eor, .cmp, .cpx, .cpy, .bit].contains m

/-- The register a write-class instruction stores (42 R123-R125). -/
def Mnemonic.storedRegister (m : Mnemonic) (s : State) : Option Byte :=
  match m with
  | .sta => some s.a
  | .stx => some s.x
  | .sty => some s.y
  | _ => none

/-- P with Z and N of a result byte: "Zero set iff result byte is 0; Negative set iff bit 7 of result is 1" (43 R140). -/
def nzOf (v : Byte) (p : Flags) : Flags :=
  { p with z := decide (v.toNat = 0), n := decide (128 ≤ v.toNat) }

/-- The pointer reads of a memory operand, the latest first: two for (zp,X) and (zp),Y, none for the others (41 R107, R108). -/
def Instr.pointerReads (i : Instr) (s : State) : List BusCall :=
  match i.memRef? with
  | some (.indX b) => [.read (zext16 (b + s.x + 1#8)), .read (zext16 (b + s.x))]
  | some (.indY b) => [.read (zext16 (b + 1#8)), .read (zext16 b)]
  | _ => []

/-- The value of a byte whose nibbles are decimal digits. -/
def bcdValue (b : Byte) : Nat := b.toNat / 16 * 10 + b.toNat % 16

/-- "valid BCD operands (both nibbles … at most 9)" (43 R142). -/
def isBcd (b : Byte) : Bool := decide (b.toNat / 16 ≤ 9) && decide (b.toNat % 16 ≤ 9)

/-- The 105 illegal opcode bytes, as 30 R65 lists them. -/
def illegalBytes : List Byte :=
  [0x02, 0x03, 0x04, 0x07, 0x0B, 0x0C, 0x0F, 0x12, 0x13, 0x14, 0x17, 0x1A, 0x1B, 0x1C, 0x1F] ++
  [0x22, 0x23, 0x27, 0x2B, 0x2F, 0x32, 0x33, 0x34, 0x37, 0x3A, 0x3B, 0x3C, 0x3F, 0x42, 0x43] ++
  [0x44, 0x47, 0x4B, 0x4F, 0x52, 0x53, 0x54, 0x57, 0x5A, 0x5B, 0x5C, 0x5F, 0x62, 0x63, 0x64] ++
  [0x67, 0x6B, 0x6F, 0x72, 0x73, 0x74, 0x77, 0x7A, 0x7B, 0x7C, 0x7F, 0x80, 0x82, 0x83, 0x87] ++
  [0x89, 0x8B, 0x8F, 0x92, 0x93, 0x97, 0x9B, 0x9C, 0x9E, 0x9F, 0xA3, 0xA7, 0xAB, 0xAF, 0xB2] ++
  [0xB3, 0xB7, 0xBB, 0xBF, 0xC2, 0xC3, 0xC7, 0xCB, 0xCF, 0xD2, 0xD3, 0xD4, 0xD7, 0xDA, 0xDB] ++
  [0xDC, 0xDF, 0xE2, 0xE3, 0xE7, 0xEB, 0xEF, 0xF2, 0xF3, 0xF4, 0xF7, 0xFA, 0xFB, 0xFC, 0xFF]

end Sys2Proof
end

