-- ==== Sys2Proof/Certificates/Slice0/Obligations.lean ====
section
/-! DEFINITION. The statements for the provers. Each docstring says which rule of the spec it formalises. -/

open Sys2Proof Sys2Proof.Machine

/-! ## Encoding (spec 30) -/

/-- Words written out from the table of 30 R66 decode to their instructions; an illegal byte (30 R65) is rejected
by name. That a cut-off instruction is rejected as truncated is the model's choice, no rule of the spec (DESIGN CHOICE, log
entry 20). -/
def Obligations.SpecWordsDecode : Prop :=
  decode [0b10101001, 0x41] = .ok (.ldaImm 0x41, []) ∧
  decode [0b10001101, 0x34, 0x12, 0xEA] = .ok (.staAbs 0x1234, [0xEA]) ∧
  decode [0b01110001, 0x20] = .ok (.adcIndY 0x20, []) ∧
  decode [0b01101010] = .ok (.rorAcc, []) ∧
  decode [0b11010000, 0xFE] = .ok (.bne 0xFE, []) ∧
  decode [0b01101100, 0xFF, 0x12] = .ok (.jmpInd 0x12FF, []) ∧
  decode [0b00000000, 0xFF] = .ok (.brk, [0xFF]) ∧
  decode [0b00101000] = .ok (.plp, []) ∧
  decode [0x02] = .error (.illegalOpcode 0x02) ∧
  decode [0x20, 0xEE] = .error (.truncated 0x20)

/-- Decoding the bytes of an instruction gives it back, whatever follows: no operand bit is dropped (30 R60-R66). -/
def Obligations.DecodeOfEncodeIsTheInstruction : Prop :=
  ∀ (i : Instr) (rest : List Byte), i.wf = true ∧ decode (encode i ++ rest) = .ok (i, rest)

/-- Whatever bytes decode to an instruction are its encoding and the rest: each word has one meaning (30 R60-R66). -/
def Obligations.EncodeOfDecodeIsTheBytes : Prop :=
  ∀ (bytes : List Byte) (i : Instr) (rest : List Byte), decode bytes = .ok (i, rest) → bytes = encode i ++ rest

/-- The bytes without a descriptor are exactly the 105 of 30 R65, and the decoder rejects them by name whatever follows. -/
def Obligations.IllegalBytesAreTheListed105 : Prop :=
  ∀ (op : Byte) (rest : List Byte),
    (descriptorOf op = none ↔ op ∈ illegalBytes) ∧
    (decode (op :: rest) = .error (.illegalOpcode op) ↔ op ∈ illegalBytes)

/-- Each instruction's opcode byte has the descriptor of its own row: mnemonic, mode (one the mnemonic has, 41 R116), length
(30 R60), base cycles (70 R282) and penalty (41 R111, 45 R180). -/
def Obligations.DescriptorIsTheInstructionsRow : Prop :=
  ∀ i : Instr, ∃ op operands d,
    encode i = op :: operands ∧ descriptorOf op = some d ∧ d.mnemonic = i.mnemonic ∧ d.mode = i.mode ∧
    i.mode ∈ i.mnemonic.modes ∧ d.length = (encode i).length ∧ d.cycles = i.baseCycles ∧
    (d.penalty = .branch ↔ i.mnemonic.isBranch = true) ∧
    (d.penalty = .pageCross ↔
      i.mnemonic.paysForCrossing = true ∧ (i.mode = .absX ∨ i.mode = .absY ∨ i.mode = .indY))

/-- The operand a branch needs: it reaches the target, and there is none exactly where no byte reaches it (30 R69, 41 R113). -/
def Obligations.BranchOperandReachesItsTarget : Prop :=
  ∀ pc0 target : Addr,
    (∀ b, branchOperand pc0 target = some b → branchTarget (pc0 + 2#16) b = target) ∧
    (branchOperand pc0 target = none ↔ ∀ b, branchTarget (pc0 + 2#16) b ≠ target)

/-! ## Memory and the Bus (spec 20, 10) -/

/-- The reference Bus: `read(a)` returns `mem[a]` with no other effect than being noted, `write(a, v)` sets `mem[a]` and no other
byte and no register, and the hook returns 0 (20 R55). That the hook then changes no byte and no register is the model's choice for
an empty queue of replies (DESIGN CHOICE, log entry 7); that memory is a canonical list is log entry 5. -/
def Obligations.ReferenceBusIsAByteArray : Prop :=
  ∀ s : State, s.OnReferenceBus → s.bus.mem.wf = true →
    (∀ a, s.busRead a = (s.peek a, { s with bus := { s.bus with calls := .read a :: s.bus.calls } })) ∧
    (∀ a v, (s.busWrite a v).peek a = v ∧ s.SameMemoryExcept [a] (s.busWrite a v) ∧
      s.SameRegisters (s.busWrite a v)) ∧
    (∀ target source, (s.callHook target source).1 = .fallthrough ∧ s.SameMemory (s.callHook target source).2 ∧
      s.SameRegisters (s.callHook target source).2)

/-- The model's canonical form (log entry 5): a write keeps it, and two canonical memories that read the same at all 65536
addresses (20 R40) are the same list. -/
def Obligations.CanonicalMemoryIsItsReads : Prop :=
  (∀ (m : Memory) (a : Addr) (v : Byte), m.wf = true → (m.write a.toNat v).wf = true) ∧
  (∀ m m' : Memory, m.wf = true → m'.wf = true → (∀ a : Addr, m.read a.toNat = m'.read a.toNat) → m = m')

/-- A push stores at 0x0100 + S and then decrements S modulo 256; the pull after it reads that byte and restores S. Three pushes
from S = 0x01 write to 0x0101, 0x0100 and 0x01FF, on every host (00 R11, 10 R26, R27, 90 C1). -/
def Obligations.PushThenPullReturnsTheByte : Prop :=
  (∀ (s : State) (v : Byte), s.bus.mem.wf = true → s.bus.isMapped (0x0100#16 + zext16 s.sp) = false →
    (s.push v).sp.toNat = (s.sp.toNat + 255) % 256 ∧
    (s.push v).peek (BitVec.ofNat 16 (256 + s.sp.toNat)) = v ∧
    s.SameMemoryExcept [BitVec.ofNat 16 (256 + s.sp.toNat)] (s.push v) ∧
    (s.push v).pull.1 = v ∧ (s.push v).pull.2.sp = s.sp ∧ s.SameRegisters ((s.push v).pull.2)) ∧
  (∀ (s : State) (u v w : Byte), s.sp = 0x01#8 →
    (((s.push u).push v).push w).sp = 0xFE#8 ∧
    (((s.push u).push v).push w).bus.calls =
      .write 0x01FF#16 w :: .write 0x0100#16 v :: .write 0x0101#16 u :: s.bus.calls)

/-- The vector accessors go through the Bus, low byte first, `getVector` answers the two bytes read, neither changes a register or
ticks (20 R54). `getVector` gives back what was set wherever the host maps neither vector byte: R54's round trip "on a Bus whose
reads return the last value written", which the spec marks as its own derivation from R41 and R42. -/
def Obligations.VectorRoundTrip : Prop :=
  ∀ (s : State) (kind : Vector) (w : Addr),
    (setVector kind w s).bus.calls =
      .write (kind.addr + 1#16) (BitVec.ofNat 8 (w.toNat / 256)) :: .write kind.addr (BitVec.ofNat 8 w.toNat) :: s.bus.calls ∧
    (getVector kind s).2.bus.calls = .read (kind.addr + 1#16) :: .read kind.addr :: s.bus.calls ∧
    (getVector kind s).1.toNat =
      ((s.busRead kind.addr).2.busRead (kind.addr + 1#16)).1.toNat * 256 + (s.busRead kind.addr).1.toNat ∧
    s.SameRegisters (setVector kind w s) ∧ (setVector kind w s).ticks = s.ticks ∧
    s.SameRegisters (getVector kind s).2 ∧ (getVector kind s).2.ticks = s.ticks ∧ s.SameMemory (getVector kind s).2 ∧
    s.SameMemoryExcept [kind.addr, kind.addr + 1#16] (setVector kind w s) ∧
    (s.bus.mem.wf = true → s.bus.isMapped kind.addr = false → s.bus.isMapped (kind.addr + 1#16) = false →
      (getVector kind (setVector kind w s)).1 = w) ∧
    Vector.nmi.addr = 0xFFFA#16 ∧ Vector.reset.addr = 0xFFFC#16 ∧ Vector.irq.addr = 0xFFFE#16

/-- P as a byte: each flag in the bit of 10 R23, bit 4 as given, bit 5 always 1 (10 R24); taking the byte back gives N, V, D, I, Z
and C, and bit 4 as given. -/
def Obligations.StatusByteLayout : Prop :=
  ∀ (p : Flags) (b b' : Bool) (v : Byte),
    (p.toByteWith b).toNat =
      p.c.toNat + 2 * p.z.toNat + 4 * p.i.toNat + 8 * p.d.toNat + 16 * b.toNat + 32 + 64 * p.v.toNat + 128 * p.n.toNat ∧
    Flags.ofByte b' (p.toByteWith b) = { p with b := b' } ∧
    ((Flags.ofByte b' v).toByteWith b).toNat + 16 * (v.getLsbD 4).toNat + 32 * (v.getLsbD 5).toNat =
      v.toNat + 16 * b.toNat + 32

/-! ## Addressing modes (spec 41) -/

/-- The effective addresses of the modes without a pointer, their page crossing, and that they make no Bus call
(41 R104-R106, R109, R110). -/
def Obligations.DirectEffectiveAddresses : Prop :=
  ∀ (s : State) (b : Byte) (w : Addr),
    ((resolve (.zp b) s).1.ea.toNat = b.toNat ∧ (resolve (.zp b) s).1.cross = false ∧ (resolve (.zp b) s).2 = s) ∧
    ((resolve (.zpX b) s).1.ea.toNat = (b.toNat + s.x.toNat) % 256 ∧ (resolve (.zpX b) s).1.cross = false ∧
      (resolve (.zpX b) s).2 = s) ∧
    ((resolve (.zpY b) s).1.ea.toNat = (b.toNat + s.y.toNat) % 256 ∧ (resolve (.zpY b) s).1.cross = false ∧
      (resolve (.zpY b) s).2 = s) ∧
    (resolve (.abs w) s = (⟨w, false⟩, s)) ∧
    ((resolve (.absX w) s).1.ea.toNat = (w.toNat + s.x.toNat) % 65536 ∧
      (resolve (.absX w) s).1.cross = decide (((w.toNat + s.x.toNat) % 65536) / 256 ≠ w.toNat / 256) ∧
      (resolve (.absX w) s).2 = s) ∧
    ((resolve (.absY w) s).1.ea.toNat = (w.toNat + s.y.toNat) % 65536 ∧
      (resolve (.absY w) s).1.cross = decide (((w.toNat + s.y.toNat) % 65536) / 256 ≠ w.toNat / 256) ∧
      (resolve (.absY w) s).2 = s)

/-- The effective addresses of (zp,X) and (zp),Y where the host maps neither pointer byte: the pointer and its second byte wrap in
page 0, and (zp),Y wraps modulo 2^16 and may cross a page (41 R107, R108). -/
def Obligations.PointerEffectiveAddresses : Prop :=
  ∀ (s : State) (b : Byte),
    (let p := BitVec.ofNat 16 ((b.toNat + s.x.toNat) % 256)
     let q := BitVec.ofNat 16 ((b.toNat + s.x.toNat + 1) % 256)
     s.bus.isMapped p = false → s.bus.isMapped q = false →
      (resolve (.indX b) s).1.ea.toNat = (s.peek q).toNat * 256 + (s.peek p).toNat ∧
      (resolve (.indX b) s).1.cross = false ∧
      (resolve (.indX b) s).2 = { s with bus := { s.bus with calls := .read q :: .read p :: s.bus.calls } }) ∧
    (let p := BitVec.ofNat 16 b.toNat
     let q := BitVec.ofNat 16 ((b.toNat + 1) % 256)
     let base := (s.peek q).toNat * 256 + (s.peek p).toNat
     s.bus.isMapped p = false → s.bus.isMapped q = false →
      (resolve (.indY b) s).1.ea.toNat = (base + s.y.toNat) % 65536 ∧
      (resolve (.indY b) s).1.cross = decide (((base + s.y.toNat) % 65536) / 256 ≠ base / 256) ∧
      (resolve (.indY b) s).2 = { s with bus := { s.bus with calls := .read q :: .read p :: s.bus.calls } })

/-- Reading an operand changes no register, no byte of memory, no mapping and no reply of the hook; where the host does not map EA
the operand is the byte of memory there (41 R114, R115: "It writes no register"). -/
def Obligations.OperandReadFrame : Prop :=
  ∀ (i : Instr) (s : State),
    s.SameRegisters (i.readOperand s).after ∧ s.SameMemory (i.readOperand s).after ∧
    (i.readOperand s).after.ticks = s.ticks ∧ (i.readOperand s).after.bus.mapped = s.bus.mapped ∧
    (i.readOperand s).after.bus.hooks = s.bus.hooks ∧
    (∀ ea ∈ i.effective s, s.bus.isMapped ea = false → (i.readOperand s).value = s.peek ea)

/-! ## Every instruction -/

/-- Every instruction completes from every state, unless the host's next reply to the call hook is to end its process; the mode, the
Status, the arguments and the host's mapping stay, it costs 2 to 7 cycles, and only JSR and BRK take a reply of the hook (42-46
"Status: Ok", 70 R282, 20 R46). That exec holds the cycles in ticks and leaves the Status field to tick is log entries 12 and 13. -/
def Obligations.EveryInstructionCompletes : Prop :=
  ∀ (i : Instr) (s : State), s.bus.nextReply.answer ≠ .halt →
    ∃ t, exec i s = .next t ∧ t.mode = s.mode ∧ t.status = s.status ∧ t.params = s.params ∧
      t.bus.mapped = s.bus.mapped ∧ 2 ≤ t.ticks ∧ t.ticks ≤ 7 ∧
      (i.mnemonic ≠ .jsr → i.mnemonic ≠ .brk → t.bus.hooks = s.bus.hooks)

/-- No instruction is refused, and only the hook's Halt stops one: JSR always, BRK where it consults the hook (20 R46, 40 R89). -/
def Obligations.OnlyHookHaltStopsAnInstruction : Prop :=
  (∀ (i : Instr) (s : State) (r : Refusal), exec i s ≠ .refused r) ∧
  (∀ (i : Instr) (s : State) (f : Fault), exec i s = .fault f →
    s.bus.nextReply.answer = .halt ∧
    (i.mnemonic = .jsr ∨ i.mnemonic = .brk ∧ (s.read16 0xFFFE#16).1 = 0#16 ∧ s.params.brkZeroHook = true)) ∧
  (∀ (w : Addr) (s : State), s.bus.nextReply.answer = .halt → exec (.jsr w) s = .fault .hostHalt) ∧
  (∀ s : State, s.bus.nextReply.answer = .halt → (s.read16 0xFFFE#16).1 = 0#16 → s.params.brkZeroHook = true →
    exec .brk s = .fault .hostHalt)

/-- Each instruction leaves its cycle count owed: base count plus the page-crossing and branch penalties (40 R85, 41 R111, 45 R180,
70 R282). -/
def Obligations.CycleCountOfEveryInstruction : Prop :=
  ∀ (i : Instr) (s t : State), exec i s = .next t → t.ticks = i.cycleCount s

/-- Which instructions write A, X, Y and S (10 R21). -/
def Obligations.OnlyListedInstructionsWriteARegister : Prop :=
  ∀ (i : Instr) (s t : State), exec i s = .next t →
    (t.a ≠ s.a → i.mnemonic ∈ [Mnemonic.lda, .pla, .txa, .tya, .adc, .sbc, .and, .ora, .eor] ∨ i.mode = .acc) ∧
    (t.x ≠ s.x → i.mnemonic ∈ [Mnemonic.ldx, .tax, .tsx, .inx, .dex]) ∧
    (t.y ≠ s.y → i.mnemonic ∈ [Mnemonic.ldy, .tay, .iny, .dey]) ∧
    (t.sp ≠ s.sp → i.mnemonic ∈ [Mnemonic.txs, .pha, .php, .pla, .plp, .jsr, .rts, .rti, .brk])

/-- Which instructions write each flag: the writers of the table of 10 R28, interrupt entry and reset apart (no instruction); bit 4
changes in PLP and RTI alone (the model's free value, log entry 3). -/
def Obligations.OnlyListedInstructionsWriteAFlag : Prop :=
  ∀ (i : Instr) (s t : State), exec i s = .next t →
    (t.p.c ≠ s.p.c →
      i.mnemonic ∈ [Mnemonic.adc, .sbc, .cmp, .cpx, .cpy, .asl, .lsr, .rol, .ror, .clc, .sec, .plp, .rti]) ∧
    (t.p.z ≠ s.p.z ∨ t.p.n ≠ s.p.n →
      i.mnemonic ∈ [Mnemonic.lda, .ldx, .ldy, .tax, .tay, .txa, .tya, .tsx, .pla, .adc, .sbc, .and, .ora, .eor] ++
        [Mnemonic.bit, .cmp, .cpx, .cpy, .inc, .dec, .inx, .iny, .dex, .dey, .asl, .lsr, .rol, .ror, .plp, .rti]) ∧
    (t.p.i ≠ s.p.i → i.mnemonic ∈ [Mnemonic.sei, .cli, .plp, .rti, .brk]) ∧
    (t.p.d ≠ s.p.d → i.mnemonic ∈ [Mnemonic.sed, .cld, .plp, .rti]) ∧
    (t.p.v ≠ s.p.v → i.mnemonic ∈ [Mnemonic.adc, .sbc, .bit, .clv, .plp, .rti]) ∧
    (t.p.b ≠ s.p.b → i.mnemonic ∈ [Mnemonic.plp, .rti])

/-- Every byte of memory outside the addresses an instruction stores to reads as before, for every instruction, where the hook
changes no byte: EA for stores and read-modify-writes, the stack bytes for pushes, JSR and BRK, nothing else (41 R114, 20 R48). -/
def Obligations.MemoryChangesOnlyWhereStored : Prop :=
  ∀ (i : Instr) (s t : State), s.bus.nextReply.writes = [] → exec i s = .next t →
    s.SameMemoryExcept (i.storedAddrs s) t

/-- Every instruction but JMP, JSR, RTS, RTI, BRK and taken branches leaves PC at PCn, the address after it (40 R92). -/
def Obligations.PcStaysPastTheInstruction : Prop :=
  ∀ (i : Instr) (s t : State), exec i s = .next t →
    i.mnemonic ∉ [Mnemonic.jmp, .jsr, .rts, .rti, .brk] → i.mnemonic.condition s.p = false → t.pc = s.pc

/-- The Bus calls of the instructions with a memory or immediate operand, in order, on every host: pointer reads, then one read at EA
(read class), one write at EA and no read (write class), or one read and one write at EA (RMW class); none for IMM and ACC (41 R114,
20 R47, R48). -/
def Obligations.BusCallsOfEachOperandClass : Prop :=
  ∀ (i : Instr) (s : State),
    (∀ ea ∈ i.effective s,
      (i.mnemonic.isRead = true → ∃ t, exec i s = .next t ∧
        t.bus.calls = .read ea :: (i.pointerReads s ++ s.bus.calls)) ∧
      (∀ v, i.mnemonic.storedRegister s = some v → ∃ t, exec i s = .next t ∧
        t.bus.calls = .write ea v :: (i.pointerReads s ++ s.bus.calls)) ∧
      (i.mnemonic.isRmw = true → ∃ t v, exec i s = .next t ∧
        t.bus.calls = .write ea v :: .read ea :: (i.pointerReads s ++ s.bus.calls))) ∧
    (i.mode = .imm ∨ i.mode = .acc → ∃ t, exec i s = .next t ∧ t.bus = s.bus)

/-! ## Loads, stores, transfers (spec 42) -/

/-- LDA, LDX and LDY in every form: the register gets M, N and Z are M's, and nothing else changes but for what the operand's Bus
reads leave (42 R120-R122). -/
def Obligations.LoadResult : Prop :=
  ∀ (i : Instr) (s : State),
    let m := (i.readOperand s).value
    let s' := (i.readOperand s).after
    (i.mnemonic = .lda → exec i s = .next { s' with a := m, p := nzOf m s.p, ticks := i.cycleCount s }) ∧
    (i.mnemonic = .ldx → exec i s = .next { s' with x := m, p := nzOf m s.p, ticks := i.cycleCount s }) ∧
    (i.mnemonic = .ldy → exec i s = .next { s' with y := m, p := nzOf m s.p, ticks := i.cycleCount s })

/-- STA, STX and STY in every form: EA gets the register (the host gets it where it maps EA), every other byte of memory, every
register and every flag stays (42 R123-R125). -/
def Obligations.StoreResult : Prop :=
  ∀ (i : Instr) (s : State) (v : Byte), s.bus.mem.wf = true → i.mnemonic.storedRegister s = some v →
    ∃ ea t, i.effective s = [ea] ∧ exec i s = .next t ∧ s.SameRegisters t ∧ s.SameMemoryExcept [ea] t ∧
      t.bus.calls.head? = some (.write ea v) ∧
      (s.bus.isMapped ea = false → t.peek ea = v) ∧ (s.bus.isMapped ea = true → s.SameMemory t)

/-- TAX, TAY, TXA, TYA, TSX, TXS, INX, INY, DEX, DEY: the whole next state (42 R126-R131, 43 R157-R160). -/
def Obligations.RegisterTransferAndCountResult : Prop :=
  ∀ s : State,
    let up (v : Byte) : Byte := BitVec.ofNat 8 ((v.toNat + 1) % 256)
    let down (v : Byte) : Byte := BitVec.ofNat 8 ((v.toNat + 255) % 256)
    exec .tax s = .next { s with x := s.a, p := nzOf s.a s.p, ticks := 2 } ∧
    exec .tay s = .next { s with y := s.a, p := nzOf s.a s.p, ticks := 2 } ∧
    exec .txa s = .next { s with a := s.x, p := nzOf s.x s.p, ticks := 2 } ∧
    exec .tya s = .next { s with a := s.y, p := nzOf s.y s.p, ticks := 2 } ∧
    exec .tsx s = .next { s with x := s.sp, p := nzOf s.sp s.p, ticks := 2 } ∧
    exec .txs s = .next { s with sp := s.x, ticks := 2 } ∧
    exec .inx s = .next { s with x := up s.x, p := nzOf (up s.x) s.p, ticks := 2 } ∧
    exec .iny s = .next { s with y := up s.y, p := nzOf (up s.y) s.p, ticks := 2 } ∧
    exec .dex s = .next { s with x := down s.x, p := nzOf (down s.x) s.p, ticks := 2 } ∧
    exec .dey s = .next { s with y := down s.y, p := nzOf (down s.y) s.p, ticks := 2 }

/-! ## Arithmetic and logic (spec 43) -/

/-- `AddBinary`: the sum modulo 256, C its ninth bit, V by the signs, which is that the signed sum leaves -128..127; and the worked
example of ADC with all its flags (43 R141). -/
def Obligations.BinaryAddition : Prop :=
  ∀ (a m : Byte) (c : Bool),
    (addBinary a m c).r.toNat = (a.toNat + m.toNat + c.toNat) % 256 ∧
    (addBinary a m c).c = decide (0xFF < a.toNat + m.toNat + c.toNat) ∧
    ((addBinary a m c).v = true ↔
      a.getLsbD 7 = m.getLsbD 7 ∧ (addBinary a m c).r.getLsbD 7 ≠ a.getLsbD 7) ∧
    ((addBinary a m c).v = true ↔
      a.toInt + m.toInt + (c.toNat : Int) < -128 ∨ 127 < a.toInt + m.toInt + (c.toNat : Int)) ∧
    (∀ s : State,
      exec (.adcImm 0x50) { s with a := 0x50, p := { s.p with c := false, d := false } } =
        .next { s with
          a := 0xA0, p := { s.p with v := true, n := true, c := false, z := false, d := false }, ticks := 2 })

/-- `SubBinary`: the difference modulo 256, C = no borrow, V by the signs (43 R143); and the whole equal to
`AddBinary(a, m XOR 0xFF, c)`, which the spec marks as its own derivation from R141. -/
def Obligations.BinarySubtraction : Prop :=
  ∀ (a m : Byte) (c : Bool),
    ((subBinary a m c).r.toNat : Int) = ((a.toNat : Int) - m.toNat - (1 - c.toNat)) % 256 ∧
    (subBinary a m c).c = decide (m.toNat + 1 ≤ a.toNat + c.toNat) ∧
    ((subBinary a m c).v = true ↔
      a.getLsbD 7 ≠ m.getLsbD 7 ∧ (subBinary a m c).r.getLsbD 7 ≠ a.getLsbD 7) ∧
    subBinary a m c = addBinary a (m ^^^ 0xFF#8) c

/-- `AddDecimal`: on all operands the algorithm of 43 R142 (the low nibble's sum corrected, then the high one's, V from the signed
high nibbles); on valid BCD operands "the decimal sum modulo 100 in r and the decimal carry in C'"; and ADC with D = 1 uses it. -/
def Obligations.DecimalAddition : Prop :=
  ∀ (a m : Byte) (c : Bool),
    let low := a.toNat % 16 + m.toNat % 16 + c.toNat
    let al := if 10 ≤ low then (low + 6) % 16 + 16 else low
    let u := a.toNat / 16 * 16 + m.toNat / 16 * 16 + al
    let u' := if 160 ≤ u then u + 96 else u
    let t : Int := (a &&& 0xF0#8).toInt + (m &&& 0xF0#8).toInt + al
    (addDecimal a m c).r.toNat = u' % 256 ∧ (addDecimal a m c).c = decide (256 ≤ u') ∧
    ((addDecimal a m c).v = true ↔ t < -128 ∨ 127 < t) ∧
    (isBcd a = true → isBcd m = true →
      isBcd (addDecimal a m c).r = true ∧
      bcdValue (addDecimal a m c).r = (bcdValue a + bcdValue m + c.toNat) % 100 ∧
      (addDecimal a m c).c = decide (100 ≤ bcdValue a + bcdValue m + c.toNat)) ∧
    (∀ s : State,
      let q := addDecimal a m c
      exec (.adcImm m) { s with a := a, p := { s.p with c := c, d := true } } =
        .next { s with a := q.r, p := { nzOf q.r s.p with c := q.c, v := q.v, d := true }, ticks := 2 })

/-- `SubDecimal`: on all operands the algorithm of 43 R144, with C and V those of binary mode; on valid BCD operands "r is the decimal
difference modulo 100, and C' = 1 exactly when no decimal borrow occurred"; and SBC with D = 1 uses it. -/
def Obligations.DecimalSubtraction : Prop :=
  ∀ (a m : Byte) (c : Bool),
    let low : Int := (a.toNat % 16 : Nat) - (m.toNat % 16 : Nat) + c.toNat - 1
    let al := if low < 0 then (low - 6) % 16 - 16 else low
    let t := ((a.toNat / 16 : Nat) : Int) * 16 - ((m.toNat / 16 : Nat) : Int) * 16 + al
    ((subDecimal a m c).r.toNat : Int) = (if t < 0 then t - 96 else t) % 256 ∧
    (subDecimal a m c).c = (subBinary a m c).c ∧ (subDecimal a m c).v = (subBinary a m c).v ∧
    (isBcd a = true → isBcd m = true →
      isBcd (subDecimal a m c).r = true ∧
      bcdValue (subDecimal a m c).r = (bcdValue a + 99 + c.toNat - bcdValue m) % 100 ∧
      (subDecimal a m c).c = decide (bcdValue m + 1 ≤ bcdValue a + c.toNat)) ∧
    (∀ s : State,
      let q := subDecimal a m c
      exec (.sbcImm m) { s with a := a, p := { s.p with c := c, d := true } } =
        .next { s with a := q.r, p := { nzOf q.r s.p with c := q.c, v := q.v, d := true }, ticks := 2 })

/-- ADC and SBC in every form: the D flag selects the arithmetic, A gets the result, C and V are the arithmetic's, N and Z the result
byte's, and nothing else changes but for what the operand's Bus reads leave (43 R146, R147, R140). -/
def Obligations.AddAndSubtractResult : Prop :=
  ∀ (i : Instr) (s : State),
    let m := (i.readOperand s).value
    let s' := (i.readOperand s).after
    (i.mnemonic = .adc →
      let q := if s.p.d = true then addDecimal s.a m s.p.c else addBinary s.a m s.p.c
      exec i s = .next { s' with a := q.r, p := { nzOf q.r s.p with c := q.c, v := q.v }, ticks := i.cycleCount s }) ∧
    (i.mnemonic = .sbc →
      let q := if s.p.d = true then subDecimal s.a m s.p.c else subBinary s.a m s.p.c
      exec i s = .next { s' with a := q.r, p := { nzOf q.r s.p with c := q.c, v := q.v }, ticks := i.cycleCount s })

/-- AND, ORA and EOR in every form (43 R148-R150). -/
def Obligations.LogicResult : Prop :=
  ∀ (i : Instr) (s : State),
    let m := (i.readOperand s).value
    let s' := (i.readOperand s).after
    (i.mnemonic = .and →
      exec i s = .next { s' with a := s.a &&& m, p := nzOf (s.a &&& m) s.p, ticks := i.cycleCount s }) ∧
    (i.mnemonic = .ora →
      exec i s = .next { s' with a := s.a ||| m, p := nzOf (s.a ||| m) s.p, ticks := i.cycleCount s }) ∧
    (i.mnemonic = .eor →
      exec i s = .next { s' with a := s.a ^^^ m, p := nzOf (s.a ^^^ m) s.p, ticks := i.cycleCount s })

/-- CMP, CPX, CPY and BIT in every form: only P changes. A compare sets C iff the register is at least M unsigned, N and Z of the
difference modulo 256, and ignores D; BIT takes N and V from bits 7 and 6 of M and Z from A AND M (43 R145, R151-R154). -/
def Obligations.CompareAndBitResult : Prop :=
  ∀ (i : Instr) (s : State),
    let m := (i.readOperand s).value
    let s' := (i.readOperand s).after
    let compared (reg : Byte) : Flags :=
      { nzOf (BitVec.ofNat 8 (256 + reg.toNat - m.toNat)) s.p with c := decide (m.toNat ≤ reg.toNat) }
    (i.mnemonic = .cmp → exec i s = .next { s' with p := compared s.a, ticks := i.cycleCount s }) ∧
    (i.mnemonic = .cpx → exec i s = .next { s' with p := compared s.x, ticks := i.cycleCount s }) ∧
    (i.mnemonic = .cpy → exec i s = .next { s' with p := compared s.y, ticks := i.cycleCount s }) ∧
    (i.mnemonic = .bit →
      exec i s = .next
        { s' with
          p := { s.p with
                 n := decide (128 ≤ m.toNat), v := decide (64 ≤ m.toNat % 128), z := decide ((s.a &&& m).toNat = 0) },
          ticks := i.cycleCount s })

/-- INC, DEC, ASL, LSR, ROL and ROR on memory in every form: EA gets the result (the host gets it where it maps EA), C is the bit
shifted out (INC and DEC leave it), N and Z are the result's; every other byte, register and flag stays (43 R155, R156, 44 R170-R174). -/
def Obligations.ReadModifyWriteResult : Prop :=
  ∀ (i : Instr) (s : State), s.bus.mem.wf = true → i.mnemonic.isRmw = true → i.mode ≠ .acc →
    let m := (i.readOperand s).value
    let r : Byte := BitVec.ofNat 8 (i.mnemonic.rmwResult m.toNat s.p.c.toNat)
    ∃ ea t, i.effective s = [ea] ∧ exec i s = .next t ∧
      t.p = { nzOf r s.p with c := i.mnemonic.rmwCarry m.toNat s.p.c } ∧
      t.a = s.a ∧ t.x = s.x ∧ t.y = s.y ∧ t.sp = s.sp ∧ t.pc = s.pc ∧
      s.SameMemoryExcept [ea] t ∧ t.bus.calls.head? = some (.write ea r) ∧
      (s.bus.isMapped ea = false → t.peek ea = r) ∧ (s.bus.isMapped ea = true → s.SameMemory t)

/-- ASL A, LSR A, ROL A and ROR A: the whole next state (44 R170-R174). -/
def Obligations.AccumulatorShiftResult : Prop :=
  ∀ (i : Instr) (s : State), i.mode = .acc →
    let r : Byte := BitVec.ofNat 8 (i.mnemonic.rmwResult s.a.toNat s.p.c.toNat)
    exec i s = .next
      { s with a := r, p := { nzOf r s.p with c := i.mnemonic.rmwCarry s.a.toNat s.p.c }, ticks := 2 }

/-! ## Control transfer (spec 45) -/

/-- The eight branches: PC becomes PCn plus the signed offset where the tested flag says so, else stays PCn; nothing else changes but
the cycles owed (45 R180-R188, 41 R113). -/
def Obligations.BranchResult : Prop :=
  ∀ (i : Instr) (s : State), i.mnemonic.isBranch = true →
    exec i s = .next
      { s with
        pc := if i.mnemonic.condition s.p = true then
            BitVec.ofInt 16 ((s.pc.toNat : Int) + (BitVec.ofNat 8 i.operand).toInt) else s.pc,
        ticks := i.cycleCount s }

/-- JMP: PC becomes the operand, or the word at the pointer with the high byte from the same page where the pointer is at xxFF and
JMP_IND_PAGE_WRAP holds; no register, flag or byte of memory changes (45 R189, 41 R112). -/
def Obligations.JumpResult : Prop :=
  ∀ (s : State) (w : Addr),
    exec (.jmpAbs w) s = .next { s with pc := w, ticks := 3 } ∧
    (let high : Addr := if w.toNat % 256 = 255 ∧ s.params.jmpIndPageWrap = true then w - 255#16 else w + 1#16
     s.bus.isMapped w = false → s.bus.isMapped high = false →
      exec (.jmpInd w) s = .next
        { s with
          pc := BitVec.ofNat 16 ((s.peek high).toNat * 256 + (s.peek w).toNat),
          ticks := 5,
          bus := { s.bus with calls := .read high :: .read w :: s.bus.calls } })

/-- JSR, the hook answering 0: the hook is called first with the target and the opcode's address, then PC - 1 is pushed high byte
first, and PC becomes the target (45 R190). With `h` the state the hook leaves, only the two stack bytes change. -/
def Obligations.JsrOrdinaryCall : Prop :=
  ∀ (s : State) (w : Addr), s.bus.mem.wf = true → s.bus.nextReply.answer = .value 0#16 →
    s.bus.isMapped (stackAddr s.sp) = false → s.bus.isMapped (stackAddr (s.sp - 1#8)) = false →
    let h := (s.callHook w (s.pc - 3#16)).2
    ∃ t, exec (.jsr w) s = .next t ∧ t.pc = w ∧ t.sp = s.sp - 2#8 ∧ t.a = s.a ∧ t.x = s.x ∧ t.y = s.y ∧ t.p = s.p ∧
      (t.peek (stackAddr s.sp)).toNat = (s.pc - 1#16).toNat / 256 ∧
      (t.peek (stackAddr (s.sp - 1#8))).toNat = (s.pc - 1#16).toNat % 256 ∧
      h.SameMemoryExcept [stackAddr s.sp, stackAddr (s.sp - 1#8)] t ∧
      t.bus.calls =
        .write (stackAddr (s.sp - 1#8)) (BitVec.ofNat 8 (s.pc - 1#16).toNat) ::
        .write (stackAddr s.sp) (BitVec.ofNat 8 ((s.pc - 1#16).toNat / 256)) ::
        .call w (s.pc - 3#16) :: s.bus.calls

/-- JSR absorbed by the hook: a nonzero answer is the next PC, nothing is pushed and S stays (45 R190, 20 R46). -/
def Obligations.JsrAbsorbedByTheHook : Prop :=
  ∀ (s : State) (w r : Addr), s.bus.nextReply.answer = .value r → r ≠ 0#16 →
    exec (.jsr w) s = .next
      { s with
        pc := r,
        ticks := 6,
        bus := { s.bus with
          mem := s.bus.mem.writeAll s.bus.nextReply.writes,
          hooks := s.bus.hooks.tail,
          calls := .call w (s.pc - 3#16) :: s.bus.calls } }

/-- RTS: PC becomes the pulled word plus 1, S rises by 2, nothing else changes (45 R191). -/
def Obligations.RtsResult : Prop :=
  ∀ s : State, s.bus.isMapped (stackAddr (s.sp + 1#8)) = false → s.bus.isMapped (stackAddr (s.sp + 2#8)) = false →
    exec .rts s = .next
      { s with
        pc := BitVec.ofNat 16
          ((s.peek (stackAddr (s.sp + 2#8))).toNat * 256 + (s.peek (stackAddr (s.sp + 1#8))).toNat + 1),
        sp := s.sp + 2#8,
        ticks := 6,
        bus := { s.bus with
          calls := .read (stackAddr (s.sp + 2#8)) :: .read (stackAddr (s.sp + 1#8)) :: s.bus.calls } }

/-- A subroutine called by JSR (the hook answering 0 and changing no byte) that returns at once by RTS resumes at the instruction
after the JSR with every register, S and P as before (45 R190, R191). -/
def Obligations.JsrThenRtsReturns : Prop :=
  ∀ (s : State) (w : Addr), s.bus.mem.wf = true → s.bus.nextReply = ⟨.value 0#16, []⟩ →
    s.bus.isMapped (stackAddr s.sp) = false → s.bus.isMapped (stackAddr (s.sp - 1#8)) = false →
    ∃ t u, exec (.jsr w) s = .next t ∧ t.pc = w ∧ exec .rts t = .next u ∧ s.SameRegisters u ∧
      s.SameMemoryExcept [stackAddr s.sp, stackAddr (s.sp - 1#8)] u

/-- BRK, where it does not consult the hook: PC0 + 2 and P with bits 4 and 5 set go to the stack, I becomes 1, D and the other flags
stay, PC is the IRQ vector read first; it is taken whatever I is (45 R193). PC0 is PC - 1. -/
def Obligations.BrkOrdinaryEntry : Prop :=
  ∀ s : State, s.bus.mem.wf = true →
    s.bus.isMapped 0xFFFE#16 = false → s.bus.isMapped 0xFFFF#16 = false →
    s.bus.isMapped (stackAddr s.sp) = false → s.bus.isMapped (stackAddr (s.sp - 1#8)) = false →
    s.bus.isMapped (stackAddr (s.sp - 2#8)) = false →
    let vec := word (s.peek 0xFFFF#16) (s.peek 0xFFFE#16)
    (vec ≠ 0#16 ∨ s.params.brkZeroHook = false) →
    ∃ t, exec .brk s = .next t ∧ t.pc = vec ∧ t.sp = s.sp - 3#8 ∧ t.p = { s.p with i := true } ∧
      t.a = s.a ∧ t.x = s.x ∧ t.y = s.y ∧
      word (t.peek (stackAddr s.sp)) (t.peek (stackAddr (s.sp - 1#8))) = s.pc - 1#16 + 2#16 ∧
      t.peek (stackAddr (s.sp - 2#8)) = s.p.toByte ||| 0x30#8 ∧
      s.SameMemoryExcept [stackAddr s.sp, stackAddr (s.sp - 1#8), stackAddr (s.sp - 2#8)] t ∧
      t.bus.hooks = s.bus.hooks

/-- BRK with a zero IRQ vector and BRK_ZERO_HOOK: the hook is called with target 0 and the opcode's address; a nonzero answer is the
next PC, with no push and no flag change; the answer 0 goes on to the ordinary entry at 0x0000 (45 R193, 20 R46). -/
def Obligations.BrkThroughTheHook : Prop :=
  ∀ s : State, s.bus.isMapped 0xFFFE#16 = false → s.bus.isMapped 0xFFFF#16 = false →
    word (s.peek 0xFFFF#16) (s.peek 0xFFFE#16) = 0#16 → s.params.brkZeroHook = true →
    (∀ r, s.bus.nextReply.answer = .value r → r ≠ 0#16 →
      exec .brk s = .next
        { s with
          pc := r,
          ticks := 7,
          bus := { s.bus with
            mem := s.bus.mem.writeAll s.bus.nextReply.writes,
            hooks := s.bus.hooks.tail,
            calls := .call 0#16 (s.pc - 1#16) :: .read 0xFFFF#16 :: .read 0xFFFE#16 :: s.bus.calls } }) ∧
    (s.bus.nextReply.answer = .value 0#16 →
      ∃ t, exec .brk s = .next t ∧ t.pc = 0#16 ∧ t.sp = s.sp - 3#8 ∧ t.p = { s.p with i := true } ∧
        t.a = s.a ∧ t.x = s.x ∧ t.y = s.y ∧ t.bus.hooks = s.bus.hooks.tail ∧
        t.bus.calls =
          .write (stackAddr (s.sp - 2#8)) (s.p.toByte ||| 0x30#8) ::
          .write (stackAddr (s.sp - 1#8)) (loByte (s.pc + 1#16)) ::
          .write (stackAddr s.sp) (hiByte (s.pc + 1#16)) ::
          .call 0#16 (s.pc - 1#16) :: .read 0xFFFF#16 :: .read 0xFFFE#16 :: s.bus.calls)

/-- RTI: N, V, D, I, Z and C from the pulled byte, its bits 5 and 4 not taken; then PC low and PC high with no + 1; S rises by 3,
nothing else changes (45 R192). -/
def Obligations.RtiResult : Prop :=
  ∀ s : State, s.bus.isMapped (stackAddr (s.sp + 1#8)) = false → s.bus.isMapped (stackAddr (s.sp + 2#8)) = false →
    s.bus.isMapped (stackAddr (s.sp + 3#8)) = false →
    let p := s.peek (stackAddr (s.sp + 1#8))
    ∃ t, exec .rti s = .next t ∧
      t.p.n = p.getLsbD 7 ∧ t.p.v = p.getLsbD 6 ∧ t.p.d = p.getLsbD 3 ∧ t.p.i = p.getLsbD 2 ∧ t.p.z = p.getLsbD 1 ∧
      t.p.c = p.getLsbD 0 ∧ t.p.toByte.getLsbD 5 = true ∧
      t.pc = word (s.peek (stackAddr (s.sp + 3#8))) (s.peek (stackAddr (s.sp + 2#8))) ∧ t.sp = s.sp + 3#8 ∧
      t.a = s.a ∧ t.x = s.x ∧ t.y = s.y ∧ s.SameMemory t

/-! ## Stack and flag instructions (spec 46) -/

/-- PHA and PHP: the byte (A; P with bits 4 and 5 set) goes to the stack address of S, S drops by 1, no flag and nothing else
changes (46 R200, R201). -/
def Obligations.PushInstructionResult : Prop :=
  ∀ s : State, s.bus.mem.wf = true →
    (∃ t, exec .pha s = .next t ∧ t.sp = s.sp - 1#8 ∧ t.a = s.a ∧ t.x = s.x ∧ t.y = s.y ∧ t.p = s.p ∧ t.pc = s.pc ∧
      t.bus.calls = .write (stackAddr s.sp) s.a :: s.bus.calls ∧ s.SameMemoryExcept [stackAddr s.sp] t ∧
      (s.bus.isMapped (stackAddr s.sp) = false → t.peek (stackAddr s.sp) = s.a)) ∧
    (∃ t, exec .php s = .next t ∧ t.sp = s.sp - 1#8 ∧ t.a = s.a ∧ t.x = s.x ∧ t.y = s.y ∧ t.p = s.p ∧ t.pc = s.pc ∧
      t.bus.calls = .write (stackAddr s.sp) (s.p.toByte ||| 0x30#8) :: s.bus.calls ∧
      s.SameMemoryExcept [stackAddr s.sp] t ∧
      (s.bus.isMapped (stackAddr s.sp) = false → t.peek (stackAddr s.sp) = s.p.toByte ||| 0x30#8))

/-- PLA and PLP: S rises by 1 and the byte there becomes A with N and Z of it, or the six flags of P (bits 5 and 4 not taken);
nothing else changes (46 R202, R203). -/
def Obligations.PullInstructionResult : Prop :=
  ∀ s : State, s.bus.isMapped (stackAddr (s.sp + 1#8)) = false →
    let v := s.peek (stackAddr (s.sp + 1#8))
    exec .pla s = .next
      { s with
        a := v, p := nzOf v s.p, sp := s.sp + 1#8, ticks := 4,
        bus := { s.bus with calls := .read (stackAddr (s.sp + 1#8)) :: s.bus.calls } } ∧
    (∃ t, exec .plp s = .next t ∧
      t.p.n = v.getLsbD 7 ∧ t.p.v = v.getLsbD 6 ∧ t.p.d = v.getLsbD 3 ∧ t.p.i = v.getLsbD 2 ∧ t.p.z = v.getLsbD 1 ∧
      t.p.c = v.getLsbD 0 ∧ t.p.toByte.getLsbD 5 = true ∧ t.sp = s.sp + 1#8 ∧
      t.a = s.a ∧ t.x = s.x ∧ t.y = s.y ∧ t.pc = s.pc ∧ s.SameMemory t)

/-- The seven flag instructions and NOP: the whole next state, one flag or nothing changed (46 R204-R211). -/
def Obligations.FlagInstructionResult : Prop :=
  ∀ s : State,
    exec .clc s = .next { s with p := { s.p with c := false }, ticks := 2 } ∧
    exec .cld s = .next { s with p := { s.p with d := false }, ticks := 2 } ∧
    exec .cli s = .next { s with p := { s.p with i := false }, ticks := 2 } ∧
    exec .clv s = .next { s with p := { s.p with v := false }, ticks := 2 } ∧
    exec .sec s = .next { s with p := { s.p with c := true }, ticks := 2 } ∧
    exec .sed s = .next { s with p := { s.p with d := true }, ticks := 2 } ∧
    exec .sei s = .next { s with p := { s.p with i := true }, ticks := 2 } ∧
    exec .nop s = .next { s with ticks := 2 }

/-! ## The driver (spec 40) -/

/-- Where the bytes at PC (none of them mapped by the host) decode to an instruction, and no call is refused or in progress, the step
is that instruction's exec, run with PC past it, the mode Executing and its bytes' reads noted; then ticks is 0 and the Status Ok
(40 R82, R84). The fetch reads exactly the instruction's bytes. -/
def Obligations.StepRunsTheDecodedInstruction : Prop :=
  ∀ (s : State) (i : Instr) (rest : List Byte),
    s.params.strictStack = false → (s.mode = .reset ∨ s.mode = .executing) → s.ticks = 0 →
    s.bus.isMapped s.pc = false → s.bus.isMapped (s.pc + 1#16) = false → s.bus.isMapped (s.pc + 2#16) = false →
    decode [s.peek s.pc, s.peek (s.pc + 1#16), s.peek (s.pc + 2#16)] = .ok (i, rest) →
    let n := (encode i).length
    let reads := ((List.range n).map fun k => BusCall.read (s.pc + BitVec.ofNat 16 k)).reverse
    let s' := { s with
      pc := s.pc + BitVec.ofNat 16 n,
      mode := .executing,
      bus := { s.bus with calls := reads ++ s.bus.calls } }
    (∀ t, exec i s' = .next t → step s = .next { t with ticks := 0, status := .ok } ∧
      tick s = .next { t with ticks := t.ticks - 1, status := .ok }) ∧
    (∀ f, exec i s' = .fault f → step s = .fault f ∧ tick s = .fault f)

/-- An illegal opcode byte, on every host: one Bus read, PC advances by 1 modulo 2^16, the mode becomes Faulted(Illegal), the Status
is Illegal, 0 cycles, and nothing else changes but for what the read leaves: no register, no flag, no byte of memory (40 R86). -/
def Obligations.IllegalOpcodeStep : Prop :=
  ∀ s : State, s.params.strictStack = false → (s.mode = .reset ∨ s.mode = .executing) → s.ticks = 0 →
    (s.busRead s.pc).1 ∈ illegalBytes →
    let t := { (s.busRead s.pc).2 with pc := s.pc + 1#16, mode := .faulted .illegal, status := .illegal }
    tick s = .next t ∧ step s = .next t ∧ t.ticks = 0 ∧ t.a = s.a ∧ t.x = s.x ∧ t.y = s.y ∧ t.sp = s.sp ∧ t.p = s.p ∧
      s.SameMemory t ∧ t.bus.hooks = s.bus.hooks ∧ t.bus.calls = .read s.pc :: s.bus.calls

/-- While an instruction is in progress, tick only counts down and step finishes it, starting no other; no Bus call, no register
(40 R81, R82). A step always leaves ticks = 0. -/
def Obligations.TickCountsDownAndStepFinishes : Prop :=
  (∀ s : State, s.params.strictStack = false → (s.mode = .reset ∨ s.mode = .executing) → 0 < s.ticks →
    tick s = .next { s with ticks := s.ticks - 1, status := .ok } ∧
    step s = .next { s with ticks := 0, status := .ok }) ∧
  (∀ s t : State, step s = .next t → t.ticks = 0)

/-- tick, step and run are refused from a faulted mode and under STRICT_STACK, and step is refused nowhere else (40 R87, R88). -/
def Obligations.RefusedExactlyWhenFaultedOrStrict : Prop :=
  (∀ (s : State) (n : Nat), s.params.strictStack = true →
    tick s = .refused .strictStack ∧ step s = .refused .strictStack ∧ run (n + 1) s = some (.refused .strictStack)) ∧
  (∀ (s : State) (n : Nat) (k : FaultKind), s.params.strictStack = false → s.mode = .faulted k →
    tick s = .refused .faultedMode ∧ step s = .refused .faultedMode ∧ run (n + 1) s = some (.refused .faultedMode)) ∧
  (∀ (s : State) (r : Refusal), step s = .refused r → s.params.strictStack = true ∨ ∃ k, s.mode = .faulted k)

/-- "run never returns Ok": it ends in Illegal with the mode Faulted(Illegal), in HostHalt or in a refusal (40 R83). -/
def Obligations.RunNeverReturnsOk : Prop :=
  ∀ (n : Nat) (s : State) (r : Result), run n s = some r →
    (∃ t, r = .next t ∧ t.status = .illegal ∧ t.mode = .faulted .illegal) ∨ r = .fault .hostHalt ∨ (∃ q, r = .refused q)

/-! ## Interrupts and reset (spec 60, 70) -/

/-- irq() and nmi(): irq with I = 1 changes nothing; else PC, high byte first, and P with bit 4 = 0 and bit 5 = 1 go to the stack, I
becomes 1, D and the other flags stay, and PC is read from the vector after the pushes; ticks, mode and hook replies stay, in every
mode (60 R242-R246). That the Status field stays is the model's choice (DESIGN CHOICE, log entry 12). -/
def Obligations.InterruptEntry : Prop :=
  ∀ s : State, s.bus.mem.wf = true → s.params.strictStack = false →
    s.bus.isMapped (stackAddr s.sp) = false → s.bus.isMapped (stackAddr (s.sp - 1#8)) = false →
    s.bus.isMapped (stackAddr (s.sp - 2#8)) = false →
    let entered (vector : Addr) (t : State) : Prop :=
      t.sp = s.sp - 3#8 ∧ t.p = { s.p with i := true } ∧ t.a = s.a ∧ t.x = s.x ∧ t.y = s.y ∧
      word (t.peek (stackAddr s.sp)) (t.peek (stackAddr (s.sp - 1#8))) = s.pc ∧
      t.peek (stackAddr (s.sp - 2#8)) = (s.p.toByte &&& 0xEF#8) ||| 0x20#8 ∧
      s.SameMemoryExcept [stackAddr s.sp, stackAddr (s.sp - 1#8), stackAddr (s.sp - 2#8)] t ∧
      (s.bus.isMapped vector = false → s.bus.isMapped (vector + 1#16) = false →
        t.pc = word (s.peek (vector + 1#16)) (s.peek vector)) ∧
      t.ticks = s.ticks ∧ t.mode = s.mode ∧ t.status = s.status ∧ t.bus.hooks = s.bus.hooks ∧
      t.bus.calls =
        .read (vector + 1#16) :: .read vector ::
        .write (stackAddr (s.sp - 2#8)) ((s.p.toByte &&& 0xEF#8) ||| 0x20#8) ::
        .write (stackAddr (s.sp - 1#8)) (loByte s.pc) :: .write (stackAddr s.sp) (hiByte s.pc) :: s.bus.calls
    (s.p.i = true → irqCall s = .next s) ∧
    (s.p.i = false → ∃ t, irqCall s = .next t ∧ entered 0xFFFE#16 t) ∧
    (∃ t, nmiCall s = .next t ∧ entered 0xFFFA#16 t)

/-- A handler that returns at once: irq() or nmi(), then RTI, resumes at the interrupted PC with A, X, Y, S and the flags N, V, D, I,
Z, C as before, and only the three stack bytes below S may differ in memory (60 R242, R249, 45 R192). -/
def Obligations.InterruptThenRtiResumes : Prop :=
  ∀ s : State, s.bus.mem.wf = true → s.params.strictStack = false →
    s.bus.isMapped (stackAddr s.sp) = false → s.bus.isMapped (stackAddr (s.sp - 1#8)) = false →
    s.bus.isMapped (stackAddr (s.sp - 2#8)) = false →
    let resumed (u : State) : Prop :=
      u.pc = s.pc ∧ u.sp = s.sp ∧ u.a = s.a ∧ u.x = s.x ∧ u.y = s.y ∧ { u.p with b := s.p.b } = s.p ∧
      s.SameMemoryExcept [stackAddr s.sp, stackAddr (s.sp - 1#8), stackAddr (s.sp - 2#8)] u
    (s.p.i = false → ∃ t u, irqCall s = .next t ∧ exec .rti t = .next u ∧ resumed u) ∧
    (∃ t u, nmiCall s = .next t ∧ exec .rti t = .next u ∧ resumed u)

/-- reset(): ticks 0, mode Reset, I = 1, bit 5 of P still 1, PC from the RESET vector, the Bus calls exactly the two vector reads, low
byte then high byte; memory, arguments and hook replies stay (70 R270). The state after reset has the same values (10 R33). -/
def Obligations.ResetCallResult : Prop :=
  (∀ s : State,
    (resetCall s).ticks = 0 ∧ (resetCall s).mode = .reset ∧ (resetCall s).p.i = true ∧
    (resetCall s).p.toByte.getLsbD 5 = true ∧
    (resetCall s).bus.calls = .read 0xFFFD#16 :: .read 0xFFFC#16 :: s.bus.calls ∧
    s.SameMemory (resetCall s) ∧ (resetCall s).params = s.params ∧ (resetCall s).bus.hooks = s.bus.hooks ∧
    (s.bus.isMapped 0xFFFC#16 = false → s.bus.isMapped 0xFFFD#16 = false →
      (resetCall s).pc = word (s.peek 0xFFFD#16) (s.peek 0xFFFC#16))) ∧
  State.reset.ticks = 0 ∧ State.reset.mode = .reset ∧ State.reset.p.i = true ∧
  State.reset.p.toByte.getLsbD 5 = true ∧
  State.reset.pc = word (State.reset.peek 0xFFFD#16) (State.reset.peek 0xFFFC#16)

/-! ## The disassembler (spec 47) -/

/-- disassemble: no register, ticks, mode or byte of memory changes, the Bus calls are exactly `length` reads at a, a + 1, a + 2, and
no text exceeds the capacity of 16 with its terminator (47 R220, R222, R224), on every host. -/
def Obligations.DisassemblyOnlyReads : Prop :=
  ∀ (s : State) (a : Addr),
    let d := disassemble a s
    s.SameRegisters d.2 ∧ d.2.ticks = s.ticks ∧ s.SameMemory d.2 ∧ d.2.bus.hooks = s.bus.hooks ∧
    1 ≤ d.1.2 ∧ d.1.2 ≤ 3 ∧ d.1.1.length < textCapacity ∧
    d.2.bus.calls = ((List.range d.1.2).map fun k => BusCall.read (a + BitVec.ofNat 16 k)).reverse ++ s.bus.calls

/-- The disassembler agrees with execution: where the bytes at `a` decode, its length is the instruction's and its text begins with the
mnemonic; where the opcode is illegal it shows the marker with length 1 (47 R220, R223, R225). -/
def Obligations.DisassemblyAgreesWithDecoding : Prop :=
  ∀ (s : State) (a : Addr),
    s.bus.isMapped a = false → s.bus.isMapped (a + 1#16) = false → s.bus.isMapped (a + 2#16) = false →
    (∀ i rest, decode [s.peek a, s.peek (a + 1#16), s.peek (a + 2#16)] = .ok (i, rest) →
      (disassemble a s).1.2 = (encode i).length ∧ (disassemble a s).1.1.take 3 = mnemonicText i.mnemonic) ∧
    (s.peek a ∈ illegalBytes → (disassemble a s).1 = (['?', '?', '?'], 1))

/-! ## Invariants -/

/-- The machine after reset meets the invariant. Canonical memory is log entry 5, the Status after reset log entry 12. -/
def Obligations.ResetMeetsTheInvariant : Prop :=
  State.reset.Inv

/-- Every step keeps the invariant, from every state that meets it: memory stays canonical, ticks within an instruction's length, and
StackFault is never produced (40 R87). -/
def Obligations.StepKeepsTheInvariant : Prop :=
  ∀ s t : State, s.Inv → step s = .next t → t.Inv

/-- Every call of the host keeps the invariant and the machine's arguments: tick, step, reset, nmi, irq, the vector accessors, the
disassembler, and the host's own writes of registers, memory and callbacks (60 R255). -/
def Obligations.EveryHostCallKeepsTheInvariant : Prop :=
  ∀ (c : HostCall) (s t : State), s.Inv → perform c s = .next t → t.Inv ∧ t.params = s.params

/-- "Only `reset()` leaves the faulted mode" (40 R88): from Faulted(Illegal) every other call of the host that is not refused stays
there, and reset() gives the mode Reset. -/
def Obligations.OnlyResetLeavesAFaultedMode : Prop :=
  ∀ (c : HostCall) (s t : State) (k : FaultKind), s.mode = .faulted k → perform c s = .next t →
    (c ≠ .reset → t.mode = .faulted k) ∧ (c = .reset → t.mode = .reset)
end

