-- ==== Sys2Proof/Laws/Memory.lean ====
section
/-! SUPPORT. The laws of memory: a read after a write, the frame of a write, and that every memory operation keeps the canonical form. -/

namespace Sys2Proof.Machine

namespace Memory

@[simp] theorem read_nil (a : Nat) : Memory.read [] a = Config.blankByte := rfl

@[simp] theorem read_cons (b : Nat) (w : Byte) (m : Memory) (a : Nat) :
    Memory.read ((b, w) :: m) a = if b = a then w else Memory.read m a := rfl

theorem read_entry_other {a x : Nat} (h : x ≠ a) (v : Byte) (m : Memory) :
    (Memory.entry a v m).read x = Memory.read m x := by
  unfold Memory.entry
  split
  · rfl
  · simp [Ne.symm h]

/-- A write leaves every other address alone. -/
theorem read_write_other {a x : Nat} (h : x ≠ a) (v : Byte) (m : Memory) :
    (Memory.write m a v).read x = Memory.read m x := by
  induction m with
  | nil => exact read_entry_other h v []
  | cons c m ih =>
    obtain ⟨b, w⟩ := c
    unfold Memory.write
    split
    · simp [ih]
    · split
      · rename_i hb
        subst hb
        rw [read_entry_other h, read_cons, if_neg (Ne.symm h)]
      · exact read_entry_other h v _

/-- Nothing is listed below where a canonical memory starts. -/
theorem read_below {lo : Nat} {m : Memory} (hm : Memory.wfFrom lo m = true) {a : Nat} (ha : a < lo) :
    Memory.read m a = Config.blankByte := by
  induction m generalizing lo with
  | nil => rfl
  | cons c m ih =>
    obtain ⟨b, w⟩ := c
    simp only [Memory.wfFrom, Bool.and_eq_true, decide_eq_true_eq] at hm
    rw [read_cons, if_neg (by omega)]
    exact ih hm.2 (by omega)

theorem read_entry_same (a : Nat) (v : Byte) (m : Memory) (h : Memory.read m a = Config.blankByte) :
    (Memory.entry a v m).read a = v := by
  unfold Memory.entry
  split
  · rename_i hv
    rw [h, hv]
  · simp

theorem read_write_same_from {lo : Nat} {m : Memory} (hm : Memory.wfFrom lo m = true) (a : Nat) (v : Byte) :
    (Memory.write m a v).read a = v := by
  induction m generalizing lo with
  | nil => exact read_entry_same a v [] rfl
  | cons c m ih =>
    obtain ⟨b, w⟩ := c
    have h := hm
    simp only [Memory.wfFrom, Bool.and_eq_true, decide_eq_true_eq] at hm
    unfold Memory.write
    split
    · rw [read_cons, if_neg (by omega), ih hm.2]
    · split
      · exact read_entry_same a v m (read_below hm.2 (by omega))
      · refine read_entry_same a v _ ?_
        rw [read_cons, if_neg (by omega)]
        exact read_below hm.2 (by omega)

/-- A read after a write to the same address gives the byte written. -/
theorem read_write_same {m : Memory} (hm : Memory.wf m = true) (a : Nat) (v : Byte) :
    (Memory.write m a v).read a = v :=
  read_write_same_from hm a v

theorem wfFrom_mono {lo lo' : Nat} (h : lo' ≤ lo) {m : Memory} (hm : Memory.wfFrom lo m = true) :
    Memory.wfFrom lo' m = true := by
  cases m with
  | nil => rfl
  | cons c m =>
    obtain ⟨b, w⟩ := c
    simp only [Memory.wfFrom, Bool.and_eq_true, decide_eq_true_eq] at hm ⊢
    exact ⟨⟨⟨by omega, hm.1.1.2⟩, hm.1.2⟩, hm.2⟩

theorem wfFrom_entry {lo a : Nat} (hlo : lo ≤ a) (ha : a < 65536) (v : Byte) {m : Memory}
    (hm : Memory.wfFrom (a + 1) m = true) : Memory.wfFrom lo (Memory.entry a v m) = true := by
  unfold Memory.entry
  split
  · exact wfFrom_mono (by omega) hm
  · rename_i hv
    simp [Memory.wfFrom, hlo, ha, hv, hm]

theorem wfFrom_write {lo a : Nat} (hlo : lo ≤ a) (ha : a < 65536) (v : Byte) {m : Memory}
    (hm : Memory.wfFrom lo m = true) : Memory.wfFrom lo (Memory.write m a v) = true := by
  induction m generalizing lo with
  | nil => exact wfFrom_entry hlo ha v rfl
  | cons c m ih =>
    obtain ⟨b, w⟩ := c
    have hm' := hm
    simp only [Memory.wfFrom, Bool.and_eq_true, decide_eq_true_eq] at hm
    unfold Memory.write
    split
    · simp only [Memory.wfFrom, Bool.and_eq_true, decide_eq_true_eq]
      exact ⟨hm.1, ih (by omega) hm.2⟩
    · split
      · rename_i hb
        subst hb
        exact wfFrom_entry hlo ha v hm.2
      · refine wfFrom_entry hlo ha v ?_
        simp only [Memory.wfFrom, Bool.and_eq_true, decide_eq_true_eq]
        exact ⟨⟨⟨by omega, hm.1.1.2⟩, hm.1.2⟩, hm.2⟩

/-- A write keeps the canonical form. -/
theorem wf_write {m : Memory} (hm : Memory.wf m = true) (a : Addr) (v : Byte) :
    Memory.wf (Memory.write m a.toNat v) = true :=
  wfFrom_write (Nat.zero_le _) a.isLt v hm

/-- Several writes keep the canonical form. -/
theorem wf_writeAll {m : Memory} (hm : Memory.wf m = true) (ws : List (Addr × Byte)) :
    Memory.wf (Memory.writeAll m ws) = true := by
  induction ws generalizing m with
  | nil => exact hm
  | cons c ws ih =>
    obtain ⟨a, v⟩ := c
    exact ih (wf_write hm a v)

/-- Several writes leave every address they do not name alone. -/
theorem read_writeAll_other (m : Memory) (ws : List (Addr × Byte)) {x : Addr} (h : ∀ c ∈ ws, c.1 ≠ x) :
    (Memory.writeAll m ws).read x.toNat = Memory.read m x.toNat := by
  induction ws generalizing m with
  | nil => rfl
  | cons c ws ih =>
    obtain ⟨a, v⟩ := c
    have ha : a ≠ x := h (a, v) (by simp)
    have hn : x.toNat ≠ a.toNat := fun hx => ha (BitVec.eq_of_toNat_eq hx.symm)
    show (Memory.writeAll (m.write a.toNat v) ws).read x.toNat = _
    rw [ih _ (fun c hc => h c (by simp [hc])), read_write_other hn]

end Memory

end Sys2Proof.Machine
end

