-- ==== Sys2Proof/Laws/State.lean ====
section
/-! SUPPORT. One lemma per field per update of State, each true by rfl, so that no later proof unfolds a record update. -/

namespace Sys2Proof.Machine

variable (s : State)

@[simp] theorem State.setA_a (v : Byte) : (s.setA v).a = v := rfl
@[simp] theorem State.setA_x (v : Byte) : (s.setA v).x = s.x := rfl
@[simp] theorem State.setA_y (v : Byte) : (s.setA v).y = s.y := rfl
@[simp] theorem State.setA_sp (v : Byte) : (s.setA v).sp = s.sp := rfl
@[simp] theorem State.setA_pc (v : Byte) : (s.setA v).pc = s.pc := rfl
@[simp] theorem State.setA_p (v : Byte) : (s.setA v).p = s.p := rfl
@[simp] theorem State.setA_ticks (v : Byte) : (s.setA v).ticks = s.ticks := rfl
@[simp] theorem State.setA_mode (v : Byte) : (s.setA v).mode = s.mode := rfl
@[simp] theorem State.setA_status (v : Byte) : (s.setA v).status = s.status := rfl
@[simp] theorem State.setA_params (v : Byte) : (s.setA v).params = s.params := rfl
@[simp] theorem State.setA_bus (v : Byte) : (s.setA v).bus = s.bus := rfl
@[simp] theorem State.setA_draws (v : Byte) : (s.setA v).draws = s.draws := rfl

@[simp] theorem State.setX_a (v : Byte) : (s.setX v).a = s.a := rfl
@[simp] theorem State.setX_x (v : Byte) : (s.setX v).x = v := rfl
@[simp] theorem State.setX_y (v : Byte) : (s.setX v).y = s.y := rfl
@[simp] theorem State.setX_sp (v : Byte) : (s.setX v).sp = s.sp := rfl
@[simp] theorem State.setX_pc (v : Byte) : (s.setX v).pc = s.pc := rfl
@[simp] theorem State.setX_p (v : Byte) : (s.setX v).p = s.p := rfl
@[simp] theorem State.setX_ticks (v : Byte) : (s.setX v).ticks = s.ticks := rfl
@[simp] theorem State.setX_mode (v : Byte) : (s.setX v).mode = s.mode := rfl
@[simp] theorem State.setX_status (v : Byte) : (s.setX v).status = s.status := rfl
@[simp] theorem State.setX_params (v : Byte) : (s.setX v).params = s.params := rfl
@[simp] theorem State.setX_bus (v : Byte) : (s.setX v).bus = s.bus := rfl
@[simp] theorem State.setX_draws (v : Byte) : (s.setX v).draws = s.draws := rfl

@[simp] theorem State.setY_a (v : Byte) : (s.setY v).a = s.a := rfl
@[simp] theorem State.setY_x (v : Byte) : (s.setY v).x = s.x := rfl
@[simp] theorem State.setY_y (v : Byte) : (s.setY v).y = v := rfl
@[simp] theorem State.setY_sp (v : Byte) : (s.setY v).sp = s.sp := rfl
@[simp] theorem State.setY_pc (v : Byte) : (s.setY v).pc = s.pc := rfl
@[simp] theorem State.setY_p (v : Byte) : (s.setY v).p = s.p := rfl
@[simp] theorem State.setY_ticks (v : Byte) : (s.setY v).ticks = s.ticks := rfl
@[simp] theorem State.setY_mode (v : Byte) : (s.setY v).mode = s.mode := rfl
@[simp] theorem State.setY_status (v : Byte) : (s.setY v).status = s.status := rfl
@[simp] theorem State.setY_params (v : Byte) : (s.setY v).params = s.params := rfl
@[simp] theorem State.setY_bus (v : Byte) : (s.setY v).bus = s.bus := rfl
@[simp] theorem State.setY_draws (v : Byte) : (s.setY v).draws = s.draws := rfl

@[simp] theorem State.setSp_a (v : Byte) : (s.setSp v).a = s.a := rfl
@[simp] theorem State.setSp_x (v : Byte) : (s.setSp v).x = s.x := rfl
@[simp] theorem State.setSp_y (v : Byte) : (s.setSp v).y = s.y := rfl
@[simp] theorem State.setSp_sp (v : Byte) : (s.setSp v).sp = v := rfl
@[simp] theorem State.setSp_pc (v : Byte) : (s.setSp v).pc = s.pc := rfl
@[simp] theorem State.setSp_p (v : Byte) : (s.setSp v).p = s.p := rfl
@[simp] theorem State.setSp_ticks (v : Byte) : (s.setSp v).ticks = s.ticks := rfl
@[simp] theorem State.setSp_mode (v : Byte) : (s.setSp v).mode = s.mode := rfl
@[simp] theorem State.setSp_status (v : Byte) : (s.setSp v).status = s.status := rfl
@[simp] theorem State.setSp_params (v : Byte) : (s.setSp v).params = s.params := rfl
@[simp] theorem State.setSp_bus (v : Byte) : (s.setSp v).bus = s.bus := rfl
@[simp] theorem State.setSp_draws (v : Byte) : (s.setSp v).draws = s.draws := rfl

@[simp] theorem State.setPc_a (v : Addr) : (s.setPc v).a = s.a := rfl
@[simp] theorem State.setPc_x (v : Addr) : (s.setPc v).x = s.x := rfl
@[simp] theorem State.setPc_y (v : Addr) : (s.setPc v).y = s.y := rfl
@[simp] theorem State.setPc_sp (v : Addr) : (s.setPc v).sp = s.sp := rfl
@[simp] theorem State.setPc_pc (v : Addr) : (s.setPc v).pc = v := rfl
@[simp] theorem State.setPc_p (v : Addr) : (s.setPc v).p = s.p := rfl
@[simp] theorem State.setPc_ticks (v : Addr) : (s.setPc v).ticks = s.ticks := rfl
@[simp] theorem State.setPc_mode (v : Addr) : (s.setPc v).mode = s.mode := rfl
@[simp] theorem State.setPc_status (v : Addr) : (s.setPc v).status = s.status := rfl
@[simp] theorem State.setPc_params (v : Addr) : (s.setPc v).params = s.params := rfl
@[simp] theorem State.setPc_bus (v : Addr) : (s.setPc v).bus = s.bus := rfl
@[simp] theorem State.setPc_draws (v : Addr) : (s.setPc v).draws = s.draws := rfl

@[simp] theorem State.setP_a (v : Flags) : (s.setP v).a = s.a := rfl
@[simp] theorem State.setP_x (v : Flags) : (s.setP v).x = s.x := rfl
@[simp] theorem State.setP_y (v : Flags) : (s.setP v).y = s.y := rfl
@[simp] theorem State.setP_sp (v : Flags) : (s.setP v).sp = s.sp := rfl
@[simp] theorem State.setP_pc (v : Flags) : (s.setP v).pc = s.pc := rfl
@[simp] theorem State.setP_p (v : Flags) : (s.setP v).p = v := rfl
@[simp] theorem State.setP_ticks (v : Flags) : (s.setP v).ticks = s.ticks := rfl
@[simp] theorem State.setP_mode (v : Flags) : (s.setP v).mode = s.mode := rfl
@[simp] theorem State.setP_status (v : Flags) : (s.setP v).status = s.status := rfl
@[simp] theorem State.setP_params (v : Flags) : (s.setP v).params = s.params := rfl
@[simp] theorem State.setP_bus (v : Flags) : (s.setP v).bus = s.bus := rfl
@[simp] theorem State.setP_draws (v : Flags) : (s.setP v).draws = s.draws := rfl

@[simp] theorem State.setTicks_a (v : Nat) : (s.setTicks v).a = s.a := rfl
@[simp] theorem State.setTicks_x (v : Nat) : (s.setTicks v).x = s.x := rfl
@[simp] theorem State.setTicks_y (v : Nat) : (s.setTicks v).y = s.y := rfl
@[simp] theorem State.setTicks_sp (v : Nat) : (s.setTicks v).sp = s.sp := rfl
@[simp] theorem State.setTicks_pc (v : Nat) : (s.setTicks v).pc = s.pc := rfl
@[simp] theorem State.setTicks_p (v : Nat) : (s.setTicks v).p = s.p := rfl
@[simp] theorem State.setTicks_ticks (v : Nat) : (s.setTicks v).ticks = v := rfl
@[simp] theorem State.setTicks_mode (v : Nat) : (s.setTicks v).mode = s.mode := rfl
@[simp] theorem State.setTicks_status (v : Nat) : (s.setTicks v).status = s.status := rfl
@[simp] theorem State.setTicks_params (v : Nat) : (s.setTicks v).params = s.params := rfl
@[simp] theorem State.setTicks_bus (v : Nat) : (s.setTicks v).bus = s.bus := rfl
@[simp] theorem State.setTicks_draws (v : Nat) : (s.setTicks v).draws = s.draws := rfl

@[simp] theorem State.setMode_a (v : Mode) : (s.setMode v).a = s.a := rfl
@[simp] theorem State.setMode_x (v : Mode) : (s.setMode v).x = s.x := rfl
@[simp] theorem State.setMode_y (v : Mode) : (s.setMode v).y = s.y := rfl
@[simp] theorem State.setMode_sp (v : Mode) : (s.setMode v).sp = s.sp := rfl
@[simp] theorem State.setMode_pc (v : Mode) : (s.setMode v).pc = s.pc := rfl
@[simp] theorem State.setMode_p (v : Mode) : (s.setMode v).p = s.p := rfl
@[simp] theorem State.setMode_ticks (v : Mode) : (s.setMode v).ticks = s.ticks := rfl
@[simp] theorem State.setMode_mode (v : Mode) : (s.setMode v).mode = v := rfl
@[simp] theorem State.setMode_status (v : Mode) : (s.setMode v).status = s.status := rfl
@[simp] theorem State.setMode_params (v : Mode) : (s.setMode v).params = s.params := rfl
@[simp] theorem State.setMode_bus (v : Mode) : (s.setMode v).bus = s.bus := rfl
@[simp] theorem State.setMode_draws (v : Mode) : (s.setMode v).draws = s.draws := rfl

@[simp] theorem State.setStatus_a (v : Status) : (s.setStatus v).a = s.a := rfl
@[simp] theorem State.setStatus_x (v : Status) : (s.setStatus v).x = s.x := rfl
@[simp] theorem State.setStatus_y (v : Status) : (s.setStatus v).y = s.y := rfl
@[simp] theorem State.setStatus_sp (v : Status) : (s.setStatus v).sp = s.sp := rfl
@[simp] theorem State.setStatus_pc (v : Status) : (s.setStatus v).pc = s.pc := rfl
@[simp] theorem State.setStatus_p (v : Status) : (s.setStatus v).p = s.p := rfl
@[simp] theorem State.setStatus_ticks (v : Status) : (s.setStatus v).ticks = s.ticks := rfl
@[simp] theorem State.setStatus_mode (v : Status) : (s.setStatus v).mode = s.mode := rfl
@[simp] theorem State.setStatus_status (v : Status) : (s.setStatus v).status = v := rfl
@[simp] theorem State.setStatus_params (v : Status) : (s.setStatus v).params = s.params := rfl
@[simp] theorem State.setStatus_bus (v : Status) : (s.setStatus v).bus = s.bus := rfl
@[simp] theorem State.setStatus_draws (v : Status) : (s.setStatus v).draws = s.draws := rfl

@[simp] theorem State.setBus_a (v : Bus) : (s.setBus v).a = s.a := rfl
@[simp] theorem State.setBus_x (v : Bus) : (s.setBus v).x = s.x := rfl
@[simp] theorem State.setBus_y (v : Bus) : (s.setBus v).y = s.y := rfl
@[simp] theorem State.setBus_sp (v : Bus) : (s.setBus v).sp = s.sp := rfl
@[simp] theorem State.setBus_pc (v : Bus) : (s.setBus v).pc = s.pc := rfl
@[simp] theorem State.setBus_p (v : Bus) : (s.setBus v).p = s.p := rfl
@[simp] theorem State.setBus_ticks (v : Bus) : (s.setBus v).ticks = s.ticks := rfl
@[simp] theorem State.setBus_mode (v : Bus) : (s.setBus v).mode = s.mode := rfl
@[simp] theorem State.setBus_status (v : Bus) : (s.setBus v).status = s.status := rfl
@[simp] theorem State.setBus_params (v : Bus) : (s.setBus v).params = s.params := rfl
@[simp] theorem State.setBus_bus (v : Bus) : (s.setBus v).bus = v := rfl
@[simp] theorem State.setBus_draws (v : Bus) : (s.setBus v).draws = s.draws := rfl

@[simp] theorem State.setDraws_a (v : Nat) : (s.setDraws v).a = s.a := rfl
@[simp] theorem State.setDraws_x (v : Nat) : (s.setDraws v).x = s.x := rfl
@[simp] theorem State.setDraws_y (v : Nat) : (s.setDraws v).y = s.y := rfl
@[simp] theorem State.setDraws_sp (v : Nat) : (s.setDraws v).sp = s.sp := rfl
@[simp] theorem State.setDraws_pc (v : Nat) : (s.setDraws v).pc = s.pc := rfl
@[simp] theorem State.setDraws_p (v : Nat) : (s.setDraws v).p = s.p := rfl
@[simp] theorem State.setDraws_ticks (v : Nat) : (s.setDraws v).ticks = s.ticks := rfl
@[simp] theorem State.setDraws_mode (v : Nat) : (s.setDraws v).mode = s.mode := rfl
@[simp] theorem State.setDraws_status (v : Nat) : (s.setDraws v).status = s.status := rfl
@[simp] theorem State.setDraws_params (v : Nat) : (s.setDraws v).params = s.params := rfl
@[simp] theorem State.setDraws_bus (v : Nat) : (s.setDraws v).bus = s.bus := rfl
@[simp] theorem State.setDraws_draws (v : Nat) : (s.setDraws v).draws = v := rfl

@[simp] theorem State.charge_a (op : Byte) (cross taken : Bool) : (s.charge op cross taken).a = s.a := rfl
@[simp] theorem State.charge_x (op : Byte) (cross taken : Bool) : (s.charge op cross taken).x = s.x := rfl
@[simp] theorem State.charge_y (op : Byte) (cross taken : Bool) : (s.charge op cross taken).y = s.y := rfl
@[simp] theorem State.charge_sp (op : Byte) (cross taken : Bool) : (s.charge op cross taken).sp = s.sp := rfl
@[simp] theorem State.charge_pc (op : Byte) (cross taken : Bool) : (s.charge op cross taken).pc = s.pc := rfl
@[simp] theorem State.charge_p (op : Byte) (cross taken : Bool) : (s.charge op cross taken).p = s.p := rfl
@[simp] theorem State.charge_ticks (op : Byte) (cross taken : Bool) : (s.charge op cross taken).ticks = cyclesOf op cross taken := rfl
@[simp] theorem State.charge_mode (op : Byte) (cross taken : Bool) : (s.charge op cross taken).mode = s.mode := rfl
@[simp] theorem State.charge_status (op : Byte) (cross taken : Bool) : (s.charge op cross taken).status = s.status := rfl
@[simp] theorem State.charge_params (op : Byte) (cross taken : Bool) : (s.charge op cross taken).params = s.params := rfl
@[simp] theorem State.charge_bus (op : Byte) (cross taken : Bool) : (s.charge op cross taken).bus = s.bus := rfl
@[simp] theorem State.charge_draws (op : Byte) (cross taken : Bool) : (s.charge op cross taken).draws = s.draws := rfl

/-- Two states with equal fields are equal. -/
theorem State.ext_fields {s t : State} (ha : s.a = t.a) (hx : s.x = t.x) (hy : s.y = t.y) (hsp : s.sp = t.sp)
    (hpc : s.pc = t.pc) (hp : s.p = t.p) (htk : s.ticks = t.ticks) (hm : s.mode = t.mode) (hst : s.status = t.status)
    (hpr : s.params = t.params) (hb : s.bus = t.bus) (hd : s.draws = t.draws) : s = t := by
  cases s; cases t; simp_all

end Sys2Proof.Machine
end

