-- ==== Sys2Proof/Laws/Bus.lean ====
section
/-! SUPPORT. What each Bus and stack operation does and leaves alone: one lemma per field, tagged simp, cited instead of unfolding the operation. -/

namespace Sys2Proof.Machine

variable (s : State)

@[simp] theorem State.noteCall_a (c : BusCall) : (s.noteCall c).a = s.a := rfl
@[simp] theorem State.noteCall_x (c : BusCall) : (s.noteCall c).x = s.x := rfl
@[simp] theorem State.noteCall_y (c : BusCall) : (s.noteCall c).y = s.y := rfl
@[simp] theorem State.noteCall_sp (c : BusCall) : (s.noteCall c).sp = s.sp := rfl
@[simp] theorem State.noteCall_pc (c : BusCall) : (s.noteCall c).pc = s.pc := rfl
@[simp] theorem State.noteCall_p (c : BusCall) : (s.noteCall c).p = s.p := rfl
@[simp] theorem State.noteCall_ticks (c : BusCall) : (s.noteCall c).ticks = s.ticks := rfl
@[simp] theorem State.noteCall_mode (c : BusCall) : (s.noteCall c).mode = s.mode := rfl
@[simp] theorem State.noteCall_status (c : BusCall) : (s.noteCall c).status = s.status := rfl
@[simp] theorem State.noteCall_params (c : BusCall) : (s.noteCall c).params = s.params := rfl
@[simp] theorem State.noteCall_draws (c : BusCall) : (s.noteCall c).draws = s.draws := rfl
@[simp] theorem State.noteCall_bus_mem (c : BusCall) : (s.noteCall c).bus.mem = s.bus.mem := rfl
@[simp] theorem State.noteCall_bus_mapped (c : BusCall) : (s.noteCall c).bus.mapped = s.bus.mapped := rfl
@[simp] theorem State.noteCall_bus_answers (c : BusCall) : (s.noteCall c).bus.answers = s.bus.answers := rfl
@[simp] theorem State.noteCall_bus_hooks (c : BusCall) : (s.noteCall c).bus.hooks = s.bus.hooks := rfl
@[simp] theorem State.noteCall_bus_calls (c : BusCall) : (s.noteCall c).bus.calls = c :: s.bus.calls := rfl
@[simp] theorem State.noteCall_isMapped (c : BusCall) (a : Addr) : (s.noteCall c).bus.isMapped a = s.bus.isMapped a := rfl

@[simp] theorem State.poke_a (a : Addr) (v : Byte) : (s.poke a v).a = s.a := rfl
@[simp] theorem State.poke_x (a : Addr) (v : Byte) : (s.poke a v).x = s.x := rfl
@[simp] theorem State.poke_y (a : Addr) (v : Byte) : (s.poke a v).y = s.y := rfl
@[simp] theorem State.poke_sp (a : Addr) (v : Byte) : (s.poke a v).sp = s.sp := rfl
@[simp] theorem State.poke_pc (a : Addr) (v : Byte) : (s.poke a v).pc = s.pc := rfl
@[simp] theorem State.poke_p (a : Addr) (v : Byte) : (s.poke a v).p = s.p := rfl
@[simp] theorem State.poke_ticks (a : Addr) (v : Byte) : (s.poke a v).ticks = s.ticks := rfl
@[simp] theorem State.poke_mode (a : Addr) (v : Byte) : (s.poke a v).mode = s.mode := rfl
@[simp] theorem State.poke_status (a : Addr) (v : Byte) : (s.poke a v).status = s.status := rfl
@[simp] theorem State.poke_params (a : Addr) (v : Byte) : (s.poke a v).params = s.params := rfl
@[simp] theorem State.poke_draws (a : Addr) (v : Byte) : (s.poke a v).draws = s.draws := rfl
@[simp] theorem State.poke_bus_mapped (a : Addr) (v : Byte) : (s.poke a v).bus.mapped = s.bus.mapped := rfl
@[simp] theorem State.poke_bus_answers (a : Addr) (v : Byte) : (s.poke a v).bus.answers = s.bus.answers := rfl
@[simp] theorem State.poke_bus_hooks (a : Addr) (v : Byte) : (s.poke a v).bus.hooks = s.bus.hooks := rfl
@[simp] theorem State.poke_bus_calls (a : Addr) (v : Byte) : (s.poke a v).bus.calls = s.bus.calls := rfl
@[simp] theorem State.poke_bus_mem (a : Addr) (v : Byte) : (s.poke a v).bus.mem = s.bus.mem.write a.toNat v := rfl
@[simp] theorem State.poke_isMapped (a : Addr) (v : Byte) (x : Addr) : (s.poke a v).bus.isMapped x = s.bus.isMapped x := rfl

@[simp] theorem State.drawByte_a : s.drawByte.2.a = s.a := rfl
@[simp] theorem State.drawByte_x : s.drawByte.2.x = s.x := rfl
@[simp] theorem State.drawByte_y : s.drawByte.2.y = s.y := rfl
@[simp] theorem State.drawByte_sp : s.drawByte.2.sp = s.sp := rfl
@[simp] theorem State.drawByte_pc : s.drawByte.2.pc = s.pc := rfl
@[simp] theorem State.drawByte_p : s.drawByte.2.p = s.p := rfl
@[simp] theorem State.drawByte_ticks : s.drawByte.2.ticks = s.ticks := rfl
@[simp] theorem State.drawByte_mode : s.drawByte.2.mode = s.mode := rfl
@[simp] theorem State.drawByte_status : s.drawByte.2.status = s.status := rfl
@[simp] theorem State.drawByte_params : s.drawByte.2.params = s.params := rfl
@[simp] theorem State.drawByte_bus : s.drawByte.2.bus = s.bus := rfl
@[simp] theorem State.drawByte_draws : s.drawByte.2.draws = s.draws + 1 := rfl
@[simp] theorem State.drawBit_a : s.drawBit.2.a = s.a := rfl
@[simp] theorem State.drawBit_x : s.drawBit.2.x = s.x := rfl
@[simp] theorem State.drawBit_y : s.drawBit.2.y = s.y := rfl
@[simp] theorem State.drawBit_sp : s.drawBit.2.sp = s.sp := rfl
@[simp] theorem State.drawBit_pc : s.drawBit.2.pc = s.pc := rfl
@[simp] theorem State.drawBit_p : s.drawBit.2.p = s.p := rfl
@[simp] theorem State.drawBit_ticks : s.drawBit.2.ticks = s.ticks := rfl
@[simp] theorem State.drawBit_mode : s.drawBit.2.mode = s.mode := rfl
@[simp] theorem State.drawBit_status : s.drawBit.2.status = s.status := rfl
@[simp] theorem State.drawBit_params : s.drawBit.2.params = s.params := rfl
@[simp] theorem State.drawBit_bus : s.drawBit.2.bus = s.bus := rfl
@[simp] theorem State.drawBit_draws : s.drawBit.2.draws = s.draws + 1 := rfl

@[simp] theorem State.hostAnswer_a : s.hostAnswer.2.a = s.a := by unfold State.hostAnswer; split <;> rfl
@[simp] theorem State.hostAnswer_x : s.hostAnswer.2.x = s.x := by unfold State.hostAnswer; split <;> rfl
@[simp] theorem State.hostAnswer_y : s.hostAnswer.2.y = s.y := by unfold State.hostAnswer; split <;> rfl
@[simp] theorem State.hostAnswer_sp : s.hostAnswer.2.sp = s.sp := by unfold State.hostAnswer; split <;> rfl
@[simp] theorem State.hostAnswer_pc : s.hostAnswer.2.pc = s.pc := by unfold State.hostAnswer; split <;> rfl
@[simp] theorem State.hostAnswer_p : s.hostAnswer.2.p = s.p := by unfold State.hostAnswer; split <;> rfl
@[simp] theorem State.hostAnswer_ticks : s.hostAnswer.2.ticks = s.ticks := by unfold State.hostAnswer; split <;> rfl
@[simp] theorem State.hostAnswer_mode : s.hostAnswer.2.mode = s.mode := by unfold State.hostAnswer; split <;> rfl
@[simp] theorem State.hostAnswer_status : s.hostAnswer.2.status = s.status := by unfold State.hostAnswer; split <;> rfl
@[simp] theorem State.hostAnswer_params : s.hostAnswer.2.params = s.params := by unfold State.hostAnswer; split <;> rfl
@[simp] theorem State.hostAnswer_bus_mem : s.hostAnswer.2.bus.mem = s.bus.mem := by unfold State.hostAnswer; split <;> rfl
@[simp] theorem State.hostAnswer_bus_mapped : s.hostAnswer.2.bus.mapped = s.bus.mapped := by unfold State.hostAnswer; split <;> rfl
@[simp] theorem State.hostAnswer_bus_hooks : s.hostAnswer.2.bus.hooks = s.bus.hooks := by unfold State.hostAnswer; split <;> rfl
@[simp] theorem State.hostAnswer_bus_calls : s.hostAnswer.2.bus.calls = s.bus.calls := by unfold State.hostAnswer; split <;> rfl

@[simp] theorem State.busRead_a (a : Addr) : (s.busRead a).2.a = s.a := by unfold State.busRead; split <;> simp
@[simp] theorem State.busRead_x (a : Addr) : (s.busRead a).2.x = s.x := by unfold State.busRead; split <;> simp
@[simp] theorem State.busRead_y (a : Addr) : (s.busRead a).2.y = s.y := by unfold State.busRead; split <;> simp
@[simp] theorem State.busRead_sp (a : Addr) : (s.busRead a).2.sp = s.sp := by unfold State.busRead; split <;> simp
@[simp] theorem State.busRead_pc (a : Addr) : (s.busRead a).2.pc = s.pc := by unfold State.busRead; split <;> simp
@[simp] theorem State.busRead_p (a : Addr) : (s.busRead a).2.p = s.p := by unfold State.busRead; split <;> simp
@[simp] theorem State.busRead_ticks (a : Addr) : (s.busRead a).2.ticks = s.ticks := by unfold State.busRead; split <;> simp
@[simp] theorem State.busRead_mode (a : Addr) : (s.busRead a).2.mode = s.mode := by unfold State.busRead; split <;> simp
@[simp] theorem State.busRead_status (a : Addr) : (s.busRead a).2.status = s.status := by unfold State.busRead; split <;> simp
@[simp] theorem State.busRead_params (a : Addr) : (s.busRead a).2.params = s.params := by unfold State.busRead; split <;> simp
@[simp] theorem State.busRead_bus_mem (a : Addr) : (s.busRead a).2.bus.mem = s.bus.mem := by unfold State.busRead; split <;> simp
@[simp] theorem State.busRead_bus_mapped (a : Addr) : (s.busRead a).2.bus.mapped = s.bus.mapped := by unfold State.busRead; split <;> simp
@[simp] theorem State.busRead_bus_hooks (a : Addr) : (s.busRead a).2.bus.hooks = s.bus.hooks := by unfold State.busRead; split <;> simp
@[simp] theorem State.busRead_bus_calls (a : Addr) : (s.busRead a).2.bus.calls = .read a :: s.bus.calls := by unfold State.busRead; split <;> simp
theorem State.isMapped_of_mapped {b b' : Bus} (h : b'.mapped = b.mapped) (a : Addr) :
    b'.isMapped a = b.isMapped a := by unfold Bus.isMapped; rw [h]
@[simp] theorem State.busRead_isMapped (a x : Addr) : (s.busRead a).2.bus.isMapped x = s.bus.isMapped x := State.isMapped_of_mapped (by simp) x
@[simp] theorem State.busRead_peek (a x : Addr) : (s.busRead a).2.peek x = s.peek x := by simp [State.peek]

/-- A read of plain memory: the byte there, and one call noted (20 R55). -/
theorem State.busRead_plain {a : Addr} (h : s.bus.isMapped a = false) :
    s.busRead a = (s.peek a, s.noteCall (.read a)) := by
  simp [State.busRead, h]

@[simp] theorem State.busRead_plain_value {a : Addr} (h : s.bus.isMapped a = false) :
    (s.busRead a).1 = s.peek a := by
  simp [State.busRead, h]

@[simp] theorem State.busWrite_a (a : Addr) (v : Byte) : (s.busWrite a v).a = s.a := by unfold State.busWrite; split <;> simp
@[simp] theorem State.busWrite_x (a : Addr) (v : Byte) : (s.busWrite a v).x = s.x := by unfold State.busWrite; split <;> simp
@[simp] theorem State.busWrite_y (a : Addr) (v : Byte) : (s.busWrite a v).y = s.y := by unfold State.busWrite; split <;> simp
@[simp] theorem State.busWrite_sp (a : Addr) (v : Byte) : (s.busWrite a v).sp = s.sp := by unfold State.busWrite; split <;> simp
@[simp] theorem State.busWrite_pc (a : Addr) (v : Byte) : (s.busWrite a v).pc = s.pc := by unfold State.busWrite; split <;> simp
@[simp] theorem State.busWrite_p (a : Addr) (v : Byte) : (s.busWrite a v).p = s.p := by unfold State.busWrite; split <;> simp
@[simp] theorem State.busWrite_ticks (a : Addr) (v : Byte) : (s.busWrite a v).ticks = s.ticks := by unfold State.busWrite; split <;> simp
@[simp] theorem State.busWrite_mode (a : Addr) (v : Byte) : (s.busWrite a v).mode = s.mode := by unfold State.busWrite; split <;> simp
@[simp] theorem State.busWrite_status (a : Addr) (v : Byte) : (s.busWrite a v).status = s.status := by unfold State.busWrite; split <;> simp
@[simp] theorem State.busWrite_params (a : Addr) (v : Byte) : (s.busWrite a v).params = s.params := by unfold State.busWrite; split <;> simp
@[simp] theorem State.busWrite_draws (a : Addr) (v : Byte) : (s.busWrite a v).draws = s.draws := by unfold State.busWrite; split <;> simp
@[simp] theorem State.busWrite_bus_mapped (a : Addr) (v : Byte) : (s.busWrite a v).bus.mapped = s.bus.mapped := by unfold State.busWrite; split <;> simp
@[simp] theorem State.busWrite_bus_answers (a : Addr) (v : Byte) : (s.busWrite a v).bus.answers = s.bus.answers := by unfold State.busWrite; split <;> simp
@[simp] theorem State.busWrite_bus_hooks (a : Addr) (v : Byte) : (s.busWrite a v).bus.hooks = s.bus.hooks := by unfold State.busWrite; split <;> simp
@[simp] theorem State.busWrite_bus_calls (a : Addr) (v : Byte) : (s.busWrite a v).bus.calls = .write a v :: s.bus.calls := by unfold State.busWrite; split <;> simp
@[simp] theorem State.busWrite_isMapped (a : Addr) (v : Byte) (x : Addr) : (s.busWrite a v).bus.isMapped x = s.bus.isMapped x := State.isMapped_of_mapped (by simp) x

theorem State.busWrite_mem_plain {a : Addr} (h : s.bus.isMapped a = false) (v : Byte) :
    (s.busWrite a v).bus.mem = s.bus.mem.write a.toNat v := by
  simp [State.busWrite, h]

theorem State.busWrite_mem_mapped {a : Addr} (h : s.bus.isMapped a = true) (v : Byte) :
    (s.busWrite a v).bus.mem = s.bus.mem := by
  simp [State.busWrite, h]

/-- A Bus write leaves every other byte of memory alone. -/
theorem State.busWrite_peek_other {a x : Addr} (h : x ≠ a) (v : Byte) : (s.busWrite a v).peek x = s.peek x := by
  have hn : x.toNat ≠ a.toNat := fun hx => h (BitVec.eq_of_toNat_eq hx)
  unfold State.peek
  cases hm : s.bus.isMapped a with
  | true => rw [s.busWrite_mem_mapped hm]
  | false => rw [s.busWrite_mem_plain hm, Memory.read_write_other hn]

/-- A Bus write to plain memory stores the byte. -/
theorem State.busWrite_peek_same {a : Addr} (h : s.bus.isMapped a = false) (hm : s.bus.mem.wf = true) (v : Byte) :
    (s.busWrite a v).peek a = v := by
  unfold State.peek
  rw [s.busWrite_mem_plain h, Memory.read_write_same hm]

theorem State.busWrite_wf (a : Addr) (v : Byte) (hm : s.bus.mem.wf = true) : (s.busWrite a v).bus.mem.wf = true := by
  cases h : s.bus.isMapped a with
  | true => rw [s.busWrite_mem_mapped h]; exact hm
  | false => rw [s.busWrite_mem_plain h]; exact Memory.wf_write hm a v

/-! The hook. -/

@[simp] theorem State.callHook_a (t c : Addr) : (s.callHook t c).2.a = s.a := rfl
@[simp] theorem State.callHook_x (t c : Addr) : (s.callHook t c).2.x = s.x := rfl
@[simp] theorem State.callHook_y (t c : Addr) : (s.callHook t c).2.y = s.y := rfl
@[simp] theorem State.callHook_sp (t c : Addr) : (s.callHook t c).2.sp = s.sp := rfl
@[simp] theorem State.callHook_pc (t c : Addr) : (s.callHook t c).2.pc = s.pc := rfl
@[simp] theorem State.callHook_p (t c : Addr) : (s.callHook t c).2.p = s.p := rfl
@[simp] theorem State.callHook_ticks (t c : Addr) : (s.callHook t c).2.ticks = s.ticks := rfl
@[simp] theorem State.callHook_mode (t c : Addr) : (s.callHook t c).2.mode = s.mode := rfl
@[simp] theorem State.callHook_status (t c : Addr) : (s.callHook t c).2.status = s.status := rfl
@[simp] theorem State.callHook_params (t c : Addr) : (s.callHook t c).2.params = s.params := rfl
@[simp] theorem State.callHook_draws (t c : Addr) : (s.callHook t c).2.draws = s.draws := rfl
@[simp] theorem State.callHook_bus_mapped (t c : Addr) : (s.callHook t c).2.bus.mapped = s.bus.mapped := rfl
@[simp] theorem State.callHook_bus_answers (t c : Addr) : (s.callHook t c).2.bus.answers = s.bus.answers := rfl
@[simp] theorem State.callHook_result (t c : Addr) : (s.callHook t c).1 = s.bus.nextReply.answer.result := rfl
@[simp] theorem State.callHook_bus_mem (t c : Addr) : (s.callHook t c).2.bus.mem = s.bus.mem.writeAll s.bus.nextReply.writes := rfl
@[simp] theorem State.callHook_bus_hooks (t c : Addr) : (s.callHook t c).2.bus.hooks = s.bus.hooks.tail := rfl
@[simp] theorem State.callHook_bus_calls (t c : Addr) : (s.callHook t c).2.bus.calls = .call t c :: s.bus.calls := rfl
@[simp] theorem State.callHook_isMapped (t c x : Addr) : (s.callHook t c).2.bus.isMapped x = s.bus.isMapped x := rfl
@[simp] theorem Bus.nextReply_nil {b : Bus} (h : b.hooks = []) : b.nextReply = ⟨.value 0#16, []⟩ := by
  simp [Bus.nextReply, h]

theorem Bus.nextReply_of_hooks {b b' : Bus} (h : b'.hooks = b.hooks) : b'.nextReply = b.nextReply := by
  simp [Bus.nextReply, h]

@[simp] theorem State.busRead_nextReply (a : Addr) : (s.busRead a).2.bus.nextReply = s.bus.nextReply :=
  Bus.nextReply_of_hooks (by simp)

@[simp] theorem HookAnswer.result_halt : HookAnswer.halt.result = .halt := rfl

@[simp] theorem HookAnswer.result_zero : (HookAnswer.value 0#16).result = .fallthrough := rfl

theorem HookAnswer.result_value {r : Addr} (h : r ≠ 0#16) : (HookAnswer.value r).result = .resume r := by
  simp [HookAnswer.result, h]

/-- An answer comes to Halt only where the host ends its process. -/
theorem HookAnswer.result_eq_halt_iff (x : HookAnswer) : x.result = .halt ↔ x = .halt := by
  cases x with
  | halt => simp [HookAnswer.result]
  | value r => by_cases h : r = 0#16 <;> simp [HookAnswer.result, h]

/-! Two reads, and the stack. -/

@[simp] theorem State.read16_a (a : Addr) : (s.read16 a).2.a = s.a := by simp [State.read16]
@[simp] theorem State.read16_x (a : Addr) : (s.read16 a).2.x = s.x := by simp [State.read16]
@[simp] theorem State.read16_y (a : Addr) : (s.read16 a).2.y = s.y := by simp [State.read16]
@[simp] theorem State.read16_sp (a : Addr) : (s.read16 a).2.sp = s.sp := by simp [State.read16]
@[simp] theorem State.read16_pc (a : Addr) : (s.read16 a).2.pc = s.pc := by simp [State.read16]
@[simp] theorem State.read16_p (a : Addr) : (s.read16 a).2.p = s.p := by simp [State.read16]
@[simp] theorem State.read16_ticks (a : Addr) : (s.read16 a).2.ticks = s.ticks := by simp [State.read16]
@[simp] theorem State.read16_mode (a : Addr) : (s.read16 a).2.mode = s.mode := by simp [State.read16]
@[simp] theorem State.read16_status (a : Addr) : (s.read16 a).2.status = s.status := by simp [State.read16]
@[simp] theorem State.read16_params (a : Addr) : (s.read16 a).2.params = s.params := by simp [State.read16]
@[simp] theorem State.read16_bus_mem (a : Addr) : (s.read16 a).2.bus.mem = s.bus.mem := by simp [State.read16]
@[simp] theorem State.read16_bus_mapped (a : Addr) : (s.read16 a).2.bus.mapped = s.bus.mapped := by simp [State.read16]
@[simp] theorem State.read16_bus_hooks (a : Addr) : (s.read16 a).2.bus.hooks = s.bus.hooks := by simp [State.read16]
@[simp] theorem State.read16_bus_calls (a : Addr) : (s.read16 a).2.bus.calls = .read (a + 1#16) :: .read a :: s.bus.calls := by simp [State.read16]
@[simp] theorem State.read16_isMapped (a : Addr) (x : Addr) : (s.read16 a).2.bus.isMapped x = s.bus.isMapped x := State.isMapped_of_mapped (by simp) x
@[simp] theorem State.read16_nextReply (a : Addr) : (s.read16 a).2.bus.nextReply = s.bus.nextReply := Bus.nextReply_of_hooks (by simp)
theorem State.read16_plain {a : Addr} (h0 : s.bus.isMapped a = false) (h1 : s.bus.isMapped (a + 1#16) = false) :
    (s.read16 a).1 = word (s.peek (a + 1#16)) (s.peek a) := by
  simp [State.read16, h0, State.busRead_plain_value, h1]

@[simp] theorem State.push_a (v : Byte) : (s.push v).a = s.a := by simp [State.push]
@[simp] theorem State.push_x (v : Byte) : (s.push v).x = s.x := by simp [State.push]
@[simp] theorem State.push_y (v : Byte) : (s.push v).y = s.y := by simp [State.push]
@[simp] theorem State.push_pc (v : Byte) : (s.push v).pc = s.pc := by simp [State.push]
@[simp] theorem State.push_p (v : Byte) : (s.push v).p = s.p := by simp [State.push]
@[simp] theorem State.push_ticks (v : Byte) : (s.push v).ticks = s.ticks := by simp [State.push]
@[simp] theorem State.push_mode (v : Byte) : (s.push v).mode = s.mode := by simp [State.push]
@[simp] theorem State.push_status (v : Byte) : (s.push v).status = s.status := by simp [State.push]
@[simp] theorem State.push_params (v : Byte) : (s.push v).params = s.params := by simp [State.push]
@[simp] theorem State.push_draws (v : Byte) : (s.push v).draws = s.draws := by simp [State.push]
@[simp] theorem State.push_bus_mapped (v : Byte) : (s.push v).bus.mapped = s.bus.mapped := by simp [State.push]
@[simp] theorem State.push_bus_answers (v : Byte) : (s.push v).bus.answers = s.bus.answers := by simp [State.push]
@[simp] theorem State.push_bus_hooks (v : Byte) : (s.push v).bus.hooks = s.bus.hooks := by simp [State.push]
@[simp] theorem State.push_sp (v : Byte) : (s.push v).sp = s.sp - 1#8 := by simp [State.push]
@[simp] theorem State.push_bus_calls (v : Byte) : (s.push v).bus.calls = .write (stackAddr s.sp) v :: s.bus.calls := by simp [State.push]
@[simp] theorem State.push_isMapped (v : Byte) (x : Addr) : (s.push v).bus.isMapped x = s.bus.isMapped x := State.isMapped_of_mapped (by simp) x

theorem State.push_peek_same (h : s.bus.isMapped (stackAddr s.sp) = false) (hm : s.bus.mem.wf = true) (v : Byte) :
    (s.push v).peek (stackAddr s.sp) = v :=
  s.busWrite_peek_same h hm v

theorem State.push_peek_other {x : Addr} (h : x ≠ stackAddr s.sp) (v : Byte) : (s.push v).peek x = s.peek x :=
  s.busWrite_peek_other h v

theorem State.push_wf (v : Byte) (hm : s.bus.mem.wf = true) : (s.push v).bus.mem.wf = true :=
  s.busWrite_wf _ v hm

@[simp] theorem State.pull_a : s.pull.2.a = s.a := by simp [State.pull]
@[simp] theorem State.pull_x : s.pull.2.x = s.x := by simp [State.pull]
@[simp] theorem State.pull_y : s.pull.2.y = s.y := by simp [State.pull]
@[simp] theorem State.pull_pc : s.pull.2.pc = s.pc := by simp [State.pull]
@[simp] theorem State.pull_p : s.pull.2.p = s.p := by simp [State.pull]
@[simp] theorem State.pull_ticks : s.pull.2.ticks = s.ticks := by simp [State.pull]
@[simp] theorem State.pull_mode : s.pull.2.mode = s.mode := by simp [State.pull]
@[simp] theorem State.pull_status : s.pull.2.status = s.status := by simp [State.pull]
@[simp] theorem State.pull_params : s.pull.2.params = s.params := by simp [State.pull]
@[simp] theorem State.pull_bus_mem : s.pull.2.bus.mem = s.bus.mem := by simp [State.pull]
@[simp] theorem State.pull_bus_mapped : s.pull.2.bus.mapped = s.bus.mapped := by simp [State.pull]
@[simp] theorem State.pull_bus_hooks : s.pull.2.bus.hooks = s.bus.hooks := by simp [State.pull]
@[simp] theorem State.pull_sp : s.pull.2.sp = s.sp + 1#8 := by simp [State.pull]
@[simp] theorem State.pull_bus_calls : s.pull.2.bus.calls = .read (stackAddr (s.sp + 1#8)) :: s.bus.calls := by simp [State.pull]
@[simp] theorem State.pull_isMapped (x : Addr) : s.pull.2.bus.isMapped x = s.bus.isMapped x := State.isMapped_of_mapped (by simp) x
@[simp] theorem State.pull_peek (x : Addr) : s.pull.2.peek x = s.peek x := by simp [State.peek]

theorem State.pull_plain (h : s.bus.isMapped (stackAddr (s.sp + 1#8)) = false) :
    s.pull.1 = s.peek (stackAddr (s.sp + 1#8)) := by
  unfold State.pull
  rw [State.busRead_plain _ (by simpa using h)]
  rfl

@[simp] theorem State.pushWord_a (w : Addr) : (s.pushWord w).a = s.a := by simp [State.pushWord]
@[simp] theorem State.pushWord_x (w : Addr) : (s.pushWord w).x = s.x := by simp [State.pushWord]
@[simp] theorem State.pushWord_y (w : Addr) : (s.pushWord w).y = s.y := by simp [State.pushWord]
@[simp] theorem State.pushWord_pc (w : Addr) : (s.pushWord w).pc = s.pc := by simp [State.pushWord]
@[simp] theorem State.pushWord_p (w : Addr) : (s.pushWord w).p = s.p := by simp [State.pushWord]
@[simp] theorem State.pushWord_ticks (w : Addr) : (s.pushWord w).ticks = s.ticks := by simp [State.pushWord]
@[simp] theorem State.pushWord_mode (w : Addr) : (s.pushWord w).mode = s.mode := by simp [State.pushWord]
@[simp] theorem State.pushWord_status (w : Addr) : (s.pushWord w).status = s.status := by simp [State.pushWord]
@[simp] theorem State.pushWord_params (w : Addr) : (s.pushWord w).params = s.params := by simp [State.pushWord]
@[simp] theorem State.pushWord_draws (w : Addr) : (s.pushWord w).draws = s.draws := by simp [State.pushWord]
@[simp] theorem State.pushWord_bus_mapped (w : Addr) : (s.pushWord w).bus.mapped = s.bus.mapped := by simp [State.pushWord]
@[simp] theorem State.pushWord_bus_answers (w : Addr) : (s.pushWord w).bus.answers = s.bus.answers := by simp [State.pushWord]
@[simp] theorem State.pushWord_bus_hooks (w : Addr) : (s.pushWord w).bus.hooks = s.bus.hooks := by simp [State.pushWord]
@[simp] theorem State.pushWord_sp (w : Addr) : (s.pushWord w).sp = s.sp - 2#8 := by simp [State.pushWord, BitVec.sub_sub]
@[simp] theorem State.pushWord_isMapped (w : Addr) (x : Addr) : (s.pushWord w).bus.isMapped x = s.bus.isMapped x := State.isMapped_of_mapped (by simp) x
theorem State.pushWord_wf (w : Addr) (hm : s.bus.mem.wf = true) : (s.pushWord w).bus.mem.wf = true :=
  State.push_wf _ _ (s.push_wf _ hm)

@[simp] theorem State.pullWord_a : s.pullWord.2.a = s.a := by simp [State.pullWord]
@[simp] theorem State.pullWord_x : s.pullWord.2.x = s.x := by simp [State.pullWord]
@[simp] theorem State.pullWord_y : s.pullWord.2.y = s.y := by simp [State.pullWord]
@[simp] theorem State.pullWord_pc : s.pullWord.2.pc = s.pc := by simp [State.pullWord]
@[simp] theorem State.pullWord_p : s.pullWord.2.p = s.p := by simp [State.pullWord]
@[simp] theorem State.pullWord_ticks : s.pullWord.2.ticks = s.ticks := by simp [State.pullWord]
@[simp] theorem State.pullWord_mode : s.pullWord.2.mode = s.mode := by simp [State.pullWord]
@[simp] theorem State.pullWord_status : s.pullWord.2.status = s.status := by simp [State.pullWord]
@[simp] theorem State.pullWord_params : s.pullWord.2.params = s.params := by simp [State.pullWord]
@[simp] theorem State.pullWord_bus_mem : s.pullWord.2.bus.mem = s.bus.mem := by simp [State.pullWord]
@[simp] theorem State.pullWord_bus_mapped : s.pullWord.2.bus.mapped = s.bus.mapped := by simp [State.pullWord]
@[simp] theorem State.pullWord_bus_hooks : s.pullWord.2.bus.hooks = s.bus.hooks := by simp [State.pullWord]
@[simp] theorem State.pullWord_sp : s.pullWord.2.sp = s.sp + 2#8 := by simp [State.pullWord, BitVec.add_assoc]
@[simp] theorem State.pullWord_isMapped (x : Addr) : s.pullWord.2.bus.isMapped x = s.bus.isMapped x := State.isMapped_of_mapped (by simp) x
@[simp] theorem State.pullWord_peek (x : Addr) : s.pullWord.2.peek x = s.peek x := by simp [State.peek]

@[simp] theorem State.pullFlags_a : s.pullFlags.a = s.a := by simp [State.pullFlags]
@[simp] theorem State.pullFlags_x : s.pullFlags.x = s.x := by simp [State.pullFlags]
@[simp] theorem State.pullFlags_y : s.pullFlags.y = s.y := by simp [State.pullFlags]
@[simp] theorem State.pullFlags_pc : s.pullFlags.pc = s.pc := by simp [State.pullFlags]
@[simp] theorem State.pullFlags_ticks : s.pullFlags.ticks = s.ticks := by simp [State.pullFlags]
@[simp] theorem State.pullFlags_mode : s.pullFlags.mode = s.mode := by simp [State.pullFlags]
@[simp] theorem State.pullFlags_status : s.pullFlags.status = s.status := by simp [State.pullFlags]
@[simp] theorem State.pullFlags_params : s.pullFlags.params = s.params := by simp [State.pullFlags]
@[simp] theorem State.pullFlags_bus_mem : s.pullFlags.bus.mem = s.bus.mem := by simp [State.pullFlags]
@[simp] theorem State.pullFlags_bus_mapped : s.pullFlags.bus.mapped = s.bus.mapped := by simp [State.pullFlags]
@[simp] theorem State.pullFlags_bus_hooks : s.pullFlags.bus.hooks = s.bus.hooks := by simp [State.pullFlags]
@[simp] theorem State.pullFlags_sp : s.pullFlags.sp = s.sp + 1#8 := by simp [State.pullFlags]
@[simp] theorem State.pullFlags_peek (x : Addr) : s.pullFlags.peek x = s.peek x := by simp [State.peek]
@[simp] theorem State.pullFlags_isMapped (x : Addr) : s.pullFlags.bus.isMapped x = s.bus.isMapped x := State.isMapped_of_mapped (by simp) x
theorem State.pullFlags_p : s.pullFlags.p = Flags.ofByte (Config.freeBit s.pull.2.draws) s.pull.1 := rfl

/-! Taking and leaving an exception. -/

@[simp] theorem State.takeException_a (ret : Addr) (b : Bool) : (s.takeException ret b).a = s.a := by simp [State.takeException]
@[simp] theorem State.takeException_x (ret : Addr) (b : Bool) : (s.takeException ret b).x = s.x := by simp [State.takeException]
@[simp] theorem State.takeException_y (ret : Addr) (b : Bool) : (s.takeException ret b).y = s.y := by simp [State.takeException]
@[simp] theorem State.takeException_pc (ret : Addr) (b : Bool) : (s.takeException ret b).pc = s.pc := by simp [State.takeException]
@[simp] theorem State.takeException_ticks (ret : Addr) (b : Bool) : (s.takeException ret b).ticks = s.ticks := by simp [State.takeException]
@[simp] theorem State.takeException_mode (ret : Addr) (b : Bool) : (s.takeException ret b).mode = s.mode := by simp [State.takeException]
@[simp] theorem State.takeException_status (ret : Addr) (b : Bool) : (s.takeException ret b).status = s.status := by simp [State.takeException]
@[simp] theorem State.takeException_params (ret : Addr) (b : Bool) : (s.takeException ret b).params = s.params := by simp [State.takeException]
@[simp] theorem State.takeException_draws (ret : Addr) (b : Bool) : (s.takeException ret b).draws = s.draws := by simp [State.takeException]
@[simp] theorem State.takeException_bus_mapped (ret : Addr) (b : Bool) : (s.takeException ret b).bus.mapped = s.bus.mapped := by simp [State.takeException]
@[simp] theorem State.takeException_bus_answers (ret : Addr) (b : Bool) : (s.takeException ret b).bus.answers = s.bus.answers := by simp [State.takeException]
@[simp] theorem State.takeException_bus_hooks (ret : Addr) (b : Bool) : (s.takeException ret b).bus.hooks = s.bus.hooks := by simp [State.takeException]
@[simp] theorem State.takeException_sp (ret : Addr) (b : Bool) : (s.takeException ret b).sp = s.sp - 3#8 := by simp [State.takeException, BitVec.sub_sub]
@[simp] theorem State.takeException_p (ret : Addr) (b : Bool) : (s.takeException ret b).p = { s.p with i := true } := by simp [State.takeException]
@[simp] theorem State.takeException_isMapped (ret : Addr) (b : Bool) (x : Addr) : (s.takeException ret b).bus.isMapped x = s.bus.isMapped x := State.isMapped_of_mapped (by simp) x
theorem State.takeException_wf (ret : Addr) (b : Bool) (hm : s.bus.mem.wf = true) :
    (s.takeException ret b).bus.mem.wf = true :=
  State.push_wf _ _ (s.pushWord_wf ret hm)

/-- The entry writes at the three stack addresses from S down, and nowhere else. -/
theorem State.takeException_peek_other (ret : Addr) (b : Bool) {x : Addr} (h0 : x ≠ stackAddr s.sp)
    (h1 : x ≠ stackAddr (s.sp - 1#8)) (h2 : x ≠ stackAddr (s.sp - 2#8)) :
    (s.takeException ret b).peek x = s.peek x := by
  show (((s.push _).push _).push _).peek x = s.peek x
  rw [State.push_peek_other _ (by simpa [BitVec.sub_sub] using h2), State.push_peek_other _ (by simpa using h1),
    State.push_peek_other _ h0]

@[simp] theorem State.returnFromException_a : s.returnFromException.a = s.a := by simp [State.returnFromException]
@[simp] theorem State.returnFromException_x : s.returnFromException.x = s.x := by simp [State.returnFromException]
@[simp] theorem State.returnFromException_y : s.returnFromException.y = s.y := by simp [State.returnFromException]
@[simp] theorem State.returnFromException_ticks : s.returnFromException.ticks = s.ticks := by simp [State.returnFromException]
@[simp] theorem State.returnFromException_mode : s.returnFromException.mode = s.mode := by simp [State.returnFromException]
@[simp] theorem State.returnFromException_status : s.returnFromException.status = s.status := by simp [State.returnFromException]
@[simp] theorem State.returnFromException_params : s.returnFromException.params = s.params := by simp [State.returnFromException]
@[simp] theorem State.returnFromException_bus_mem : s.returnFromException.bus.mem = s.bus.mem := by simp [State.returnFromException]
@[simp] theorem State.returnFromException_bus_mapped : s.returnFromException.bus.mapped = s.bus.mapped := by simp [State.returnFromException]
@[simp] theorem State.returnFromException_bus_hooks : s.returnFromException.bus.hooks = s.bus.hooks := by simp [State.returnFromException]
@[simp] theorem State.returnFromException_sp : s.returnFromException.sp = s.sp + 3#8 := by
  simp [State.returnFromException, BitVec.add_assoc]

theorem State.returnFromException_p : s.returnFromException.p = s.pullFlags.p := by
  simp [State.returnFromException]

/-! The stack page: stack addresses of different offsets are different. -/

theorem stackAddr_injective {x y : Byte} (h : stackAddr x = stackAddr y) : x = y := by
  have h' : zext16 x = zext16 y := by simpa [stackAddr] using h
  have h2 := congrArg BitVec.toNat h'
  have hx := x.isLt
  have hy := y.isLt
  simp [zext16] at h2
  exact BitVec.eq_of_toNat_eq (by omega)

theorem stackAddr_ne {x y : Byte} (h : x ≠ y) : stackAddr x ≠ stackAddr y := fun e => h (stackAddr_injective e)

theorem stackAddr_toNat (x : Byte) : (stackAddr x).toNat = 256 + x.toNat := by
  have := x.isLt
  simp [stackAddr, zext16]
  omega

/-! P as a byte: every bit where 10 R23 puts it. -/

theorem Flags.toByteWith_getLsbD (b : Bool) (p : Flags) :
    (p.toByteWith b).getLsbD 0 = p.c ∧ (p.toByteWith b).getLsbD 1 = p.z ∧ (p.toByteWith b).getLsbD 2 = p.i ∧
    (p.toByteWith b).getLsbD 3 = p.d ∧ (p.toByteWith b).getLsbD 4 = b ∧ (p.toByteWith b).getLsbD 5 = true ∧
    (p.toByteWith b).getLsbD 6 = p.v ∧ (p.toByteWith b).getLsbD 7 = p.n := by
  simp only [Flags.toByteWith, BitVec.getLsbD_append]
  simp

/-- A pushed P, taken back, gives N, V, D, I, Z and C again. -/
theorem Flags.ofByte_toByteWith (b b' : Bool) (p : Flags) : Flags.ofByte b' (p.toByteWith b) = { p with b := b' } := by
  obtain ⟨h0, h1, h2, h3, -, -, h6, h7⟩ := Flags.toByteWith_getLsbD b p
  simp only [Flags.ofByte, h0, h1, h2, h3, h6, h7]

/-! Words and their two bytes. -/

theorem word_toNat (h l : Byte) : (word h l).toNat = h.toNat * 256 + l.toNat := by
  have := l.isLt
  simp only [word, BitVec.toNat_append]
  rw [← Nat.shiftLeft_add_eq_or_of_lt (by omega), Nat.shiftLeft_eq]

theorem loByte_toNat (w : Addr) : (loByte w).toNat = w.toNat % 256 := by
  simp [loByte, BitVec.extractLsb'_toNat]

theorem hiByte_toNat (w : Addr) : (hiByte w).toNat = w.toNat / 256 := by
  have := w.isLt
  simp [hiByte, BitVec.extractLsb'_toNat, Nat.shiftRight_eq_div_pow]
  omega

@[simp] theorem loByte_word (h l : Byte) : loByte (word h l) = l := by
  apply BitVec.eq_of_toNat_eq
  have := l.isLt
  rw [loByte_toNat, word_toNat]
  omega

@[simp] theorem hiByte_word (h l : Byte) : hiByte (word h l) = h := by
  apply BitVec.eq_of_toNat_eq
  have := l.isLt
  rw [hiByte_toNat, word_toNat]
  omega

@[simp] theorem word_hiByte_loByte (w : Addr) : word (hiByte w) (loByte w) = w := by
  apply BitVec.eq_of_toNat_eq
  rw [word_toNat, hiByte_toNat, loByte_toNat]
  omega

end Sys2Proof.Machine
end

