-- ==== Sys2Proof/Laws/Decode.lean ====
section
/-! SUPPORT. What the decoder answers and what a fetch from plain memory brings in. -/

namespace Sys2Proof

/-- "A mnemonic in a mode its row does not list has no encoding" (41 R116): no constructor is one. -/
theorem Instr.mode_mem_modes (i : Instr) : i.mode ∈ i.mnemonic.modes := by
  cases i <;> simp [Instr.mode, Instr.mnemonic, Instr.shape, Mnemonic.modes]

/-- The operand of an instruction fits its operand bytes (30 R60, R61). -/
theorem Instr.operand_lt (i : Instr) : i.operand < 256 ^ i.mode.operandBytes := by
  cases i <;> first | exact Nat.zero_lt_one | exact BitVec.isLt _

/-- What a descriptor's format makes has the descriptor's mnemonic and mode, and its encoding is the opcode and the operand bytes. -/
def Descriptor.Agrees (op : Byte) (d : Descriptor) : Prop :=
  match d.format with
  | .f1 i => i.mnemonic = d.mnemonic ∧ i.mode = d.mode ∧ d.mode.operandBytes = 0 ∧ encode i = [op]
  | .f2 make => ∀ b, (make b).mnemonic = d.mnemonic ∧ (make b).mode = d.mode ∧ d.mode.operandBytes = 1 ∧ encode (make b) = [op, b]
  | .f3 make => ∀ w, (make w).mnemonic = d.mnemonic ∧ (make w).mode = d.mode ∧ d.mode.operandBytes = 2 ∧
      encode (make w) = [op, loByte w, hiByte w]

/-- Every descriptor agrees with its instruction (30 R63). -/
theorem descriptorOf_agrees (op : Byte) : ∀ d ∈ descriptorOf op, d.Agrees op := by
  have key : ∀ n : Fin 256, match descriptorOf ⟨n⟩ with
      | none => True
      | some d => d.Agrees ⟨n⟩ := by
    intro n
    fin_cases n <;> first | trivial | exact ⟨rfl, rfl, rfl, rfl⟩ | exact fun _ => ⟨rfl, rfl, rfl, rfl⟩
  intro d hd
  have k := key op.toFin
  have e : descriptorOf ⟨op.toFin⟩ = some d := hd
  rw [e] at k
  exact k

/-- What the decoder read, where it answers an instruction: its row, and as many operand bytes as the row has. -/
theorem decode_cases {op : Byte} {bytes rest : List Byte} {i : Instr} (h : decode (op :: bytes) = .ok (i, rest)) :
    ∃ d, descriptorOf op = some d ∧ i.mnemonic = d.mnemonic ∧ i.mode = d.mode ∧
      (encode i).length = 1 + d.mode.operandBytes ∧
      decode (op :: bytes.take d.mode.operandBytes) = .ok (i, []) := by
  unfold decode at h
  cases hd : descriptorOf op with
  | none => simp [hd] at h
  | some d =>
    have k := descriptorOf_agrees op d hd
    unfold Descriptor.Agrees at k
    simp only [hd] at h
    refine ⟨d, rfl, ?_⟩
    cases hf : d.format with
    | f1 j =>
      simp only [hf] at h k
      obtain ⟨rfl, rfl⟩ : j = i ∧ bytes = rest := by simpa using h
      obtain ⟨k1, k2, k3, k4⟩ := k
      refine ⟨k1, k2, by rw [k4, k3]; rfl, ?_⟩
      simp only [decode, hd, hf, k3, List.take_zero]
    | f2 make =>
      simp only [hf] at h k
      match bytes, h with
      | [], h => cases h
      | b :: r, h =>
        obtain ⟨rfl, rfl⟩ : make b = i ∧ r = rest := by simpa using h
        obtain ⟨k1, k2, k3, k4⟩ := k b
        refine ⟨k1, k2, by rw [k4, k3]; rfl, ?_⟩
        simp only [decode, hd, hf, k3, List.take_succ_cons, List.take_zero]
    | f3 make =>
      simp only [hf] at h k
      match bytes, h with
      | [], h => cases h
      | [_], h => cases h
      | b :: c :: r, h =>
        obtain ⟨rfl, rfl⟩ : make (word c b) = i ∧ r = rest := by simpa using h
        obtain ⟨k1, k2, k3, k4⟩ := k (word c b)
        refine ⟨k1, k2, by rw [k4, k3]; rfl, ?_⟩
        simp only [decode, hd, hf, k3, List.take_succ_cons, List.take_zero]

namespace Machine

/-- Reading up to two operand bytes of plain memory. -/
theorem State.readBytes_plain {n : Nat} (hn : n ≤ 2) (a : Addr) (s : State) (h0 : s.bus.isMapped a = false)
    (h1 : s.bus.isMapped (a + 1#16) = false) :
    s.readBytes n a = ([s.peek a, s.peek (a + 1#16)].take n,
      { s with bus := { s.bus with
          calls := ((List.range n).map fun k => BusCall.read (a + BitVec.ofNat 16 k)).reverse ++ s.bus.calls } }) := by
  match n, hn with
  | 0, _ => rfl
  | 1, _ => simp [State.readBytes, State.busRead_plain _ h0, List.range_succ]; rfl
  | 2, _ =>
    simp only [State.readBytes, State.busRead_plain _ h0]
    rw [State.busRead_plain _ (by simpa using h1)]
    simp [List.range_succ]
    exact ⟨rfl, rfl⟩

/-- What a fetch from plain memory brings in (40 R84): the instruction at the PC, with exactly its bytes read. -/
theorem fetch_plain {s : State} {i : Instr} {rest : List Byte} (h0 : s.bus.isMapped s.pc = false)
    (h1 : s.bus.isMapped (s.pc + 1#16) = false) (h2 : s.bus.isMapped (s.pc + 2#16) = false)
    (h : decode [s.peek s.pc, s.peek (s.pc + 1#16), s.peek (s.pc + 2#16)] = .ok (i, rest)) :
    fetch s = (.ok i, { s with bus := { s.bus with
      calls := ((List.range (encode i).length).map fun k => BusCall.read (s.pc + BitVec.ofNat 16 k)).reverse ++
        s.bus.calls } }) := by
  obtain ⟨d, hd, -, -, hl, hdec⟩ := decode_cases h
  have e2 : s.pc + 1#16 + 1#16 = s.pc + 2#16 := by rw [BitVec.add_assoc]; rfl
  have hn : d.mode.operandBytes ≤ 2 := by cases d.mode <;> decide
  have hb := State.readBytes_plain hn (s.pc + 1#16) (s.noteCall (.read s.pc)) (by simpa using h1) (by rw [e2]; simpa using h2)
  rw [e2] at hb
  have hri : s.readInstruction s.pc =
      (s.peek s.pc :: [s.peek (s.pc + 1#16), s.peek (s.pc + 2#16)].take d.mode.operandBytes,
        { s with bus := { s.bus with
            calls := ((List.range (encode i).length).map fun k => BusCall.read (s.pc + BitVec.ofNat 16 k)).reverse ++
              s.bus.calls } }) := by
    simp only [State.readInstruction, State.busRead_plain _ h0, hd, hb, hl]
    refine Prod.ext rfl ?_
    have : d.mode.operandBytes = 0 ∨ d.mode.operandBytes = 1 ∨ d.mode.operandBytes = 2 := by omega
    rcases this with e | e | e <;> rw [e] <;> simp [List.range_succ, e2]
  simp only [fetch, hri, hdec]

end Machine

end Sys2Proof
end

