-- ==== Sys2Proof/Laws/Stack.lean ====
section
/-! SUPPORT. What pushes and pulls do to memory and to the list of calls: the specs of the stack operations and of the exception entry. -/

namespace Sys2Proof.Machine

variable (s : State)

/-- Two states with the same memory list have the same bytes. -/
theorem State.peek_congr {s t : State} (h : t.bus.mem = s.bus.mem) (x : Addr) : t.peek x = s.peek x := by
  simp [State.peek, h]

/-- Two busses with equal fields are equal. -/
theorem Bus.ext_fields {b b' : Bus} (h1 : b.mem = b'.mem) (h2 : b.mapped = b'.mapped) (h3 : b.answers = b'.answers)
    (h4 : b.hooks = b'.hooks) (h5 : b.calls = b'.calls) : b = b' := by
  cases b; cases b'; simp_all

/-! Stack addresses below S. -/

theorem stackAddr_sub_ne (x : Byte) {k : Nat} (h0 : 0 < k) (h1 : k < 256) : stackAddr (x - BitVec.ofNat 8 k) ≠ stackAddr x := by
  refine stackAddr_ne fun h => ?_
  have h := congrArg BitVec.toNat h
  have := x.isLt
  rw [BitVec.toNat_sub, BitVec.toNat_ofNat, Nat.mod_eq_of_lt (show k < 2 ^ 8 from h1)] at h
  omega

theorem stackAddr_sub_one_ne (x : Byte) : stackAddr (x - 1#8) ≠ stackAddr x := stackAddr_sub_ne x (by decide) (by decide)
theorem stackAddr_sub_two_ne (x : Byte) : stackAddr (x - 2#8) ≠ stackAddr x := stackAddr_sub_ne x (by decide) (by decide)
theorem stackAddr_sub_two_ne_sub_one (x : Byte) : stackAddr (x - 2#8) ≠ stackAddr (x - 1#8) := by
  have := stackAddr_sub_one_ne (x - 1#8)
  rwa [BitVec.sub_sub] at this

/-! Pulls from plain memory. -/

/-- `Pull()` on an address that is plain memory: S rises, the byte is read, one call is noted (00 R11). -/
theorem State.pull_plain_eq (h : s.bus.isMapped (stackAddr (s.sp + 1#8)) = false) :
    s.pull = (s.peek (stackAddr (s.sp + 1#8)),
      { s with sp := s.sp + 1#8, bus := { s.bus with calls := .read (stackAddr (s.sp + 1#8)) :: s.bus.calls } }) := by
  unfold State.pull
  rw [State.busRead_plain _ (by simpa using h)]
  rfl

/-- Pulling a word from plain memory, low byte first (10 R27). -/
theorem State.pullWord_plain_eq (h1 : s.bus.isMapped (stackAddr (s.sp + 1#8)) = false)
    (h2 : s.bus.isMapped (stackAddr (s.sp + 2#8)) = false) :
    s.pullWord = (word (s.peek (stackAddr (s.sp + 2#8))) (s.peek (stackAddr (s.sp + 1#8))),
      { s with
        sp := s.sp + 2#8,
        bus := { s.bus with
          calls := .read (stackAddr (s.sp + 2#8)) :: .read (stackAddr (s.sp + 1#8)) :: s.bus.calls } }) := by
  have e : s.sp + 1#8 + 1#8 = s.sp + 2#8 := by rw [BitVec.add_assoc]; rfl
  simp only [State.pullWord, State.pull_plain_eq s h1]
  rw [State.pull_plain_eq _ (by simp only [e]; exact h2)]
  simp only [e]
  rfl

/-! Pushes. -/

@[simp] theorem State.pushWord_bus_calls (w : Addr) : (s.pushWord w).bus.calls =
    .write (stackAddr (s.sp - 1#8)) (loByte w) :: .write (stackAddr s.sp) (hiByte w) :: s.bus.calls := by
  simp [State.pushWord]

theorem State.pushWord_peek_other (w : Addr) {x : Addr} (h0 : x ≠ stackAddr s.sp) (h1 : x ≠ stackAddr (s.sp - 1#8)) :
    (s.pushWord w).peek x = s.peek x := by
  rw [State.pushWord, State.push_peek_other _ (by simpa using h1), State.push_peek_other _ h0]

/-- "A 16-bit value is pushed high byte first" (10 R27): where it lies. -/
theorem State.pushWord_peek_high (w : Addr) (hm : s.bus.mem.wf = true) (h0 : s.bus.isMapped (stackAddr s.sp) = false) :
    (s.pushWord w).peek (stackAddr s.sp) = hiByte w := by
  rw [State.pushWord, State.push_peek_other _ (by simpa using (stackAddr_sub_one_ne s.sp).symm), State.push_peek_same _ h0 hm]

theorem State.pushWord_peek_low (w : Addr) (hm : s.bus.mem.wf = true) (h1 : s.bus.isMapped (stackAddr (s.sp - 1#8)) = false) :
    (s.pushWord w).peek (stackAddr (s.sp - 1#8)) = loByte w := by
  have := State.push_peek_same (s.push (hiByte w)) (by simpa using h1) (State.push_wf _ _ hm) (loByte w)
  rwa [State.push_sp] at this

/-! The exception entry (45 R193, 60 R242). -/

@[simp] theorem State.takeException_bus_calls (ret : Addr) (b : Bool) : (s.takeException ret b).bus.calls =
    .write (stackAddr (s.sp - 2#8)) (s.p.toByteWith b) :: .write (stackAddr (s.sp - 1#8)) (loByte ret) ::
      .write (stackAddr s.sp) (hiByte ret) :: s.bus.calls := by
  simp [State.takeException]

theorem State.takeException_peek_high (ret : Addr) (b : Bool) (hm : s.bus.mem.wf = true)
    (h0 : s.bus.isMapped (stackAddr s.sp) = false) : (s.takeException ret b).peek (stackAddr s.sp) = hiByte ret := by
  show ((s.pushWord ret).push _).peek _ = _
  rw [State.push_peek_other _ (by simpa using (stackAddr_sub_two_ne s.sp).symm), State.pushWord_peek_high s ret hm h0]

theorem State.takeException_peek_low (ret : Addr) (b : Bool) (hm : s.bus.mem.wf = true)
    (h1 : s.bus.isMapped (stackAddr (s.sp - 1#8)) = false) :
    (s.takeException ret b).peek (stackAddr (s.sp - 1#8)) = loByte ret := by
  show ((s.pushWord ret).push _).peek _ = _
  rw [State.push_peek_other _ (by simpa using (stackAddr_sub_two_ne_sub_one s.sp).symm), State.pushWord_peek_low s ret hm h1]

theorem State.takeException_peek_status (ret : Addr) (b : Bool) (hm : s.bus.mem.wf = true)
    (h2 : s.bus.isMapped (stackAddr (s.sp - 2#8)) = false) :
    (s.takeException ret b).peek (stackAddr (s.sp - 2#8)) = s.p.toByteWith b := by
  have := State.push_peek_same (s.pushWord ret) (by simpa using h2) (State.pushWord_wf _ _ hm) (s.p.toByteWith b)
  rwa [State.pushWord_sp] at this

/-! P as a byte, in the words of the spec: `P OR 0x30` (45 R193, 46 R201), `(P AND 0xEF) OR 0x20` (60 R242). -/

theorem Flags.toByteWith_true (p : Flags) : p.toByteWith true = p.toByte ||| 0x30#8 := by
  obtain ⟨c, z, i, d, b, v, n⟩ := p
  cases c <;> cases z <;> cases i <;> cases d <;> cases b <;> cases v <;> cases n <;> rfl

theorem Flags.toByteWith_false (p : Flags) : p.toByteWith false = (p.toByte &&& 0xEF#8) ||| 0x20#8 := by
  obtain ⟨c, z, i, d, b, v, n⟩ := p
  cases c <;> cases z <;> cases i <;> cases d <;> cases b <;> cases v <;> cases n <;> rfl

/-- Bit 5 of P reads as 1 (10 R24). -/
@[simp] theorem Flags.toByteWith_bit5 (b4 : Bool) (p : Flags) : (p.toByteWith b4).getLsbD 5 = true := by
  obtain ⟨c, z, i, d, b, v, n⟩ := p
  cases c <;> cases z <;> cases i <;> cases d <;> cases b <;> cases b4 <;> cases v <;> cases n <;> rfl

end Sys2Proof.Machine
end

