-- ==== Sys2Proof/Laws/Driver.lean ====
section
/-! SUPPORT. What a fetch leaves, what one tick and one step can do, and the fields the host's calls keep. -/

namespace Sys2Proof.Machine

variable (s : State)

/-! The fetch's Bus reads. -/

@[simp] theorem State.readBytes_a (n : Nat) (a : Addr) (s : State) : (s.readBytes n a).2.a = s.a := by
  induction n generalizing a s with
  | zero => rfl
  | succ n ih => exact (ih _ _).trans (by simp)
@[simp] theorem State.readBytes_x (n : Nat) (a : Addr) (s : State) : (s.readBytes n a).2.x = s.x := by
  induction n generalizing a s with
  | zero => rfl
  | succ n ih => exact (ih _ _).trans (by simp)
@[simp] theorem State.readBytes_y (n : Nat) (a : Addr) (s : State) : (s.readBytes n a).2.y = s.y := by
  induction n generalizing a s with
  | zero => rfl
  | succ n ih => exact (ih _ _).trans (by simp)
@[simp] theorem State.readBytes_sp (n : Nat) (a : Addr) (s : State) : (s.readBytes n a).2.sp = s.sp := by
  induction n generalizing a s with
  | zero => rfl
  | succ n ih => exact (ih _ _).trans (by simp)
@[simp] theorem State.readBytes_pc (n : Nat) (a : Addr) (s : State) : (s.readBytes n a).2.pc = s.pc := by
  induction n generalizing a s with
  | zero => rfl
  | succ n ih => exact (ih _ _).trans (by simp)
@[simp] theorem State.readBytes_p (n : Nat) (a : Addr) (s : State) : (s.readBytes n a).2.p = s.p := by
  induction n generalizing a s with
  | zero => rfl
  | succ n ih => exact (ih _ _).trans (by simp)
@[simp] theorem State.readBytes_ticks (n : Nat) (a : Addr) (s : State) : (s.readBytes n a).2.ticks = s.ticks := by
  induction n generalizing a s with
  | zero => rfl
  | succ n ih => exact (ih _ _).trans (by simp)
@[simp] theorem State.readBytes_mode (n : Nat) (a : Addr) (s : State) : (s.readBytes n a).2.mode = s.mode := by
  induction n generalizing a s with
  | zero => rfl
  | succ n ih => exact (ih _ _).trans (by simp)
@[simp] theorem State.readBytes_status (n : Nat) (a : Addr) (s : State) : (s.readBytes n a).2.status = s.status := by
  induction n generalizing a s with
  | zero => rfl
  | succ n ih => exact (ih _ _).trans (by simp)
@[simp] theorem State.readBytes_params (n : Nat) (a : Addr) (s : State) : (s.readBytes n a).2.params = s.params := by
  induction n generalizing a s with
  | zero => rfl
  | succ n ih => exact (ih _ _).trans (by simp)
@[simp] theorem State.readBytes_bus_mem (n : Nat) (a : Addr) (s : State) : (s.readBytes n a).2.bus.mem = s.bus.mem := by
  induction n generalizing a s with
  | zero => rfl
  | succ n ih => exact (ih _ _).trans (by simp)
@[simp] theorem State.readBytes_bus_mapped (n : Nat) (a : Addr) (s : State) : (s.readBytes n a).2.bus.mapped = s.bus.mapped := by
  induction n generalizing a s with
  | zero => rfl
  | succ n ih => exact (ih _ _).trans (by simp)
@[simp] theorem State.readBytes_bus_hooks (n : Nat) (a : Addr) (s : State) : (s.readBytes n a).2.bus.hooks = s.bus.hooks := by
  induction n generalizing a s with
  | zero => rfl
  | succ n ih => exact (ih _ _).trans (by simp)

/-- Exactly `n` reads, upward from `a` (40 R84, 47 R222). -/
theorem State.readBytes_calls (n : Nat) (a : Addr) (s : State) :
    (s.readBytes n a).2.bus.calls =
      ((List.range n).map fun k => BusCall.read (a + BitVec.ofNat 16 k)).reverse ++ s.bus.calls := by
  induction n generalizing a s with
  | zero => rfl
  | succ n ih =>
    refine (ih _ _).trans ?_
    simp only [State.busRead_bus_calls, List.range_succ_eq_map, List.map_cons, List.map_map, List.reverse_cons,
      List.append_assoc, List.singleton_append]
    congr 2
    · refine List.map_congr_left fun k _ => ?_
      show BusCall.read _ = BusCall.read _
      congr 1
      simp only [BitVec.add_assoc]
      congr 1
      apply BitVec.eq_of_toNat_eq
      simp [Nat.add_comm]
    · simp

@[simp] theorem State.readBytes_length (n : Nat) (a : Addr) (s : State) : (s.readBytes n a).1.length = n := by
  induction n generalizing a s with
  | zero => rfl
  | succ n ih => exact congrArg (· + 1) (ih _ _)

@[simp] theorem State.readInstruction_a (a : Addr) : (s.readInstruction a).2.a = s.a := by
  unfold State.readInstruction; simp only; split <;> simp
@[simp] theorem State.readInstruction_x (a : Addr) : (s.readInstruction a).2.x = s.x := by
  unfold State.readInstruction; simp only; split <;> simp
@[simp] theorem State.readInstruction_y (a : Addr) : (s.readInstruction a).2.y = s.y := by
  unfold State.readInstruction; simp only; split <;> simp
@[simp] theorem State.readInstruction_sp (a : Addr) : (s.readInstruction a).2.sp = s.sp := by
  unfold State.readInstruction; simp only; split <;> simp
@[simp] theorem State.readInstruction_pc (a : Addr) : (s.readInstruction a).2.pc = s.pc := by
  unfold State.readInstruction; simp only; split <;> simp
@[simp] theorem State.readInstruction_p (a : Addr) : (s.readInstruction a).2.p = s.p := by
  unfold State.readInstruction; simp only; split <;> simp
@[simp] theorem State.readInstruction_ticks (a : Addr) : (s.readInstruction a).2.ticks = s.ticks := by
  unfold State.readInstruction; simp only; split <;> simp
@[simp] theorem State.readInstruction_mode (a : Addr) : (s.readInstruction a).2.mode = s.mode := by
  unfold State.readInstruction; simp only; split <;> simp
@[simp] theorem State.readInstruction_status (a : Addr) : (s.readInstruction a).2.status = s.status := by
  unfold State.readInstruction; simp only; split <;> simp
@[simp] theorem State.readInstruction_params (a : Addr) : (s.readInstruction a).2.params = s.params := by
  unfold State.readInstruction; simp only; split <;> simp
@[simp] theorem State.readInstruction_bus_mem (a : Addr) : (s.readInstruction a).2.bus.mem = s.bus.mem := by
  unfold State.readInstruction; simp only; split <;> simp
@[simp] theorem State.readInstruction_bus_mapped (a : Addr) : (s.readInstruction a).2.bus.mapped = s.bus.mapped := by
  unfold State.readInstruction; simp only; split <;> simp
@[simp] theorem State.readInstruction_bus_hooks (a : Addr) : (s.readInstruction a).2.bus.hooks = s.bus.hooks := by
  unfold State.readInstruction; simp only; split <;> simp
@[simp] theorem fetch_a : (fetch s).2.a = s.a := by
  unfold fetch; simp only; split <;> simp
@[simp] theorem fetch_x : (fetch s).2.x = s.x := by
  unfold fetch; simp only; split <;> simp
@[simp] theorem fetch_y : (fetch s).2.y = s.y := by
  unfold fetch; simp only; split <;> simp
@[simp] theorem fetch_sp : (fetch s).2.sp = s.sp := by
  unfold fetch; simp only; split <;> simp
@[simp] theorem fetch_pc : (fetch s).2.pc = s.pc := by
  unfold fetch; simp only; split <;> simp
@[simp] theorem fetch_p : (fetch s).2.p = s.p := by
  unfold fetch; simp only; split <;> simp
@[simp] theorem fetch_ticks : (fetch s).2.ticks = s.ticks := by
  unfold fetch; simp only; split <;> simp
@[simp] theorem fetch_mode : (fetch s).2.mode = s.mode := by
  unfold fetch; simp only; split <;> simp
@[simp] theorem fetch_status : (fetch s).2.status = s.status := by
  unfold fetch; simp only; split <;> simp
@[simp] theorem fetch_params : (fetch s).2.params = s.params := by
  unfold fetch; simp only; split <;> simp
@[simp] theorem fetch_bus_mem : (fetch s).2.bus.mem = s.bus.mem := by
  unfold fetch; simp only; split <;> simp
@[simp] theorem fetch_bus_mapped : (fetch s).2.bus.mapped = s.bus.mapped := by
  unfold fetch; simp only; split <;> simp
@[simp] theorem fetch_bus_hooks : (fetch s).2.bus.hooks = s.bus.hooks := by
  unfold fetch; simp only; split <;> simp

/-! The driver. -/

theorem State.entryRefusal_eq_none : s.entryRefusal = none ↔
    s.params.strictStack = false ∧ (s.mode = .reset ∨ s.mode = .executing) := by
  unfold State.entryRefusal
  cases s.params.strictStack <;> cases s.mode <;> simp

/-- Whether a call is refused does not depend on the registers, the cycles or the Bus. -/
theorem State.entryRefusal_congr {s t : State} (hp : t.params = s.params) (hm : t.mode = s.mode) :
    t.entryRefusal = s.entryRefusal := by
  unfold State.entryRefusal; rw [hp, hm]

/-- What a first tick that answers a next state did: it ran an instruction, or met an illegal opcode (40 R81, R84, R86). -/
theorem startInstruction_cases {s t : State} (h : startInstruction s = .next t) :
    (∃ i u, (fetch s).1 = .ok i ∧ exec i ((fetch s).2.setPc (s.pc + BitVec.ofNat 16 (instrLength i))) = .next u ∧
      t = (u.setTicks (u.ticks - 1)).setStatus .ok) ∨
    (∃ e, (fetch s).1 = .error e ∧ t = (fetch s).2.illegalAt s.pc) := by
  unfold startInstruction at h
  simp only at h
  split at h
  · rename_i i hi
    left
    cases hx : exec i ((fetch s).2.setPc (s.pc + BitVec.ofNat 16 (instrLength i))) with
    | next u => rw [hx] at h; exact ⟨i, u, hi, hx, by cases h; rfl⟩
    | fault f => rw [hx] at h; cases h
    | refused r => rw [hx] at h; cases h
  · rename_i e he
    right
    exact ⟨e, he, by cases h; rfl⟩

/-- What a tick that answers a next state did (40 R81). -/
theorem tick_cases {s t : State} (h : tick s = .next t) :
    s.params.strictStack = false ∧ (s.mode = .reset ∨ s.mode = .executing) ∧
    ((0 < s.ticks ∧ t = (s.setTicks (s.ticks - 1)).setStatus .ok) ∨
     (s.ticks = 0 ∧ startInstruction (s.setMode .executing) = .next t)) := by
  unfold tick at h
  cases hr : s.entryRefusal with
  | some r => simp [hr] at h
  | none =>
    obtain ⟨h1, h2⟩ := (State.entryRefusal_eq_none s).1 hr
    simp only [hr] at h
    refine ⟨h1, h2, ?_⟩
    split at h
    · rename_i hp; exact .inl ⟨hp, by cases h; rfl⟩
    · rename_i hp; exact .inr ⟨by omega, h⟩

/-- What a step that answers a next state did: it finished the instruction in progress, or it ticked and dropped what was owed
(40 R82). -/
theorem stepCall_cases {s t : State} (h : stepCall s = .next t) :
    (0 < s.ticks ∧ t = (s.setTicks 0).setStatus .ok) ∨
    (s.ticks = 0 ∧ ∃ u, tick s = .next u ∧ t = u.setTicks 0) := by
  unfold stepCall at h
  cases hr : s.entryRefusal with
  | some r => simp [hr] at h
  | none =>
    simp only [hr] at h
    split at h
    · rename_i hp; exact .inl ⟨hp, by cases h; rfl⟩
    · rename_i hp
      refine .inr ⟨by omega, ?_⟩
      cases ht : tick s with
      | next u => rw [ht] at h; exact ⟨u, rfl, by cases h; rfl⟩
      | fault f => rw [ht] at h; cases h
      | refused r => rw [ht] at h; cases h

/-! The interrupt sequencer (60 R242, 70 R270) and the vector accessors (20 R54). -/

@[simp] theorem State.enter_a (v : Vector) : (s.enter v).a = s.a := by simp [State.enter]
@[simp] theorem State.enter_x (v : Vector) : (s.enter v).x = s.x := by simp [State.enter]
@[simp] theorem State.enter_y (v : Vector) : (s.enter v).y = s.y := by simp [State.enter]
@[simp] theorem State.enter_ticks (v : Vector) : (s.enter v).ticks = s.ticks := by simp [State.enter]
@[simp] theorem State.enter_mode (v : Vector) : (s.enter v).mode = s.mode := by simp [State.enter]
@[simp] theorem State.enter_status (v : Vector) : (s.enter v).status = s.status := by simp [State.enter]
@[simp] theorem State.enter_params (v : Vector) : (s.enter v).params = s.params := by simp [State.enter]
@[simp] theorem State.enter_bus_mapped (v : Vector) : (s.enter v).bus.mapped = s.bus.mapped := by simp [State.enter]
@[simp] theorem State.enter_bus_hooks (v : Vector) : (s.enter v).bus.hooks = s.bus.hooks := by simp [State.enter]
@[simp] theorem State.enter_sp (v : Vector) : (s.enter v).sp = s.sp - 3#8 := by simp [State.enter]
@[simp] theorem State.enter_p (v : Vector) : (s.enter v).p = { s.p with i := true } := by simp [State.enter]
theorem State.enter_mem (v : Vector) : (s.enter v).bus.mem = (s.takeException s.pc false).bus.mem := by simp [State.enter]
theorem State.enter_wf (v : Vector) (hm : s.bus.mem.wf = true) : (s.enter v).bus.mem.wf = true := by
  rw [State.enter_mem]; exact State.takeException_wf _ _ _ hm
@[simp] theorem resetCall_ticks : (resetCall s).ticks = 0 := by simp [resetCall, State.drawRegisters]
@[simp] theorem resetCall_mode : (resetCall s).mode = .reset := by simp [resetCall, State.drawRegisters]
@[simp] theorem resetCall_status : (resetCall s).status = s.status := by simp [resetCall, State.drawRegisters]
@[simp] theorem resetCall_params : (resetCall s).params = s.params := by simp [resetCall, State.drawRegisters]
@[simp] theorem resetCall_bus_mem : (resetCall s).bus.mem = s.bus.mem := by simp [resetCall, State.drawRegisters]
@[simp] theorem resetCall_bus_mapped : (resetCall s).bus.mapped = s.bus.mapped := by simp [resetCall, State.drawRegisters]
@[simp] theorem resetCall_bus_hooks : (resetCall s).bus.hooks = s.bus.hooks := by simp [resetCall, State.drawRegisters]
theorem setVector_wf (v : Vector) (w : Addr) (hm : s.bus.mem.wf = true) : (setVector v w s).bus.mem.wf = true :=
  State.busWrite_wf _ _ _ (State.busWrite_wf _ _ _ hm)

/-! The host's own moves (10 R34, 60 R255). -/

theorem State.poke_wf (a : Addr) (v : Byte) (hm : s.bus.mem.wf = true) : (s.poke a v).bus.mem.wf = true :=
  Memory.wf_write hm a v

end Sys2Proof.Machine
end

