-- ==== Sys2Proof/Laws/Operands.lean ====
section
/-! SUPPORT. What resolving an operand leaves alone, and one lemma for each shape that the meanings are written in. -/

namespace Sys2Proof.Machine

variable (s : State)

@[simp] theorem State.zpPointer_a (q : Byte) : (s.zpPointer q).2.a = s.a := by simp [State.zpPointer]
@[simp] theorem State.zpPointer_x (q : Byte) : (s.zpPointer q).2.x = s.x := by simp [State.zpPointer]
@[simp] theorem State.zpPointer_y (q : Byte) : (s.zpPointer q).2.y = s.y := by simp [State.zpPointer]
@[simp] theorem State.zpPointer_sp (q : Byte) : (s.zpPointer q).2.sp = s.sp := by simp [State.zpPointer]
@[simp] theorem State.zpPointer_pc (q : Byte) : (s.zpPointer q).2.pc = s.pc := by simp [State.zpPointer]
@[simp] theorem State.zpPointer_p (q : Byte) : (s.zpPointer q).2.p = s.p := by simp [State.zpPointer]
@[simp] theorem State.zpPointer_ticks (q : Byte) : (s.zpPointer q).2.ticks = s.ticks := by simp [State.zpPointer]
@[simp] theorem State.zpPointer_mode (q : Byte) : (s.zpPointer q).2.mode = s.mode := by simp [State.zpPointer]
@[simp] theorem State.zpPointer_status (q : Byte) : (s.zpPointer q).2.status = s.status := by simp [State.zpPointer]
@[simp] theorem State.zpPointer_params (q : Byte) : (s.zpPointer q).2.params = s.params := by simp [State.zpPointer]
@[simp] theorem State.zpPointer_bus_mem (q : Byte) : (s.zpPointer q).2.bus.mem = s.bus.mem := by simp [State.zpPointer]
@[simp] theorem State.zpPointer_bus_mapped (q : Byte) : (s.zpPointer q).2.bus.mapped = s.bus.mapped := by simp [State.zpPointer]
@[simp] theorem State.zpPointer_bus_hooks (q : Byte) : (s.zpPointer q).2.bus.hooks = s.bus.hooks := by simp [State.zpPointer]
@[simp] theorem State.zpPointer_bus_calls (q : Byte) :
    (s.zpPointer q).2.bus.calls = .read (zext16 (q + 1#8)) :: .read (zext16 q) :: s.bus.calls := by simp [State.zpPointer]

/-- A pointer in plain memory. -/
theorem State.zpPointer_plain {q : Byte} (h0 : s.bus.isMapped (zext16 q) = false)
    (h1 : s.bus.isMapped (zext16 (q + 1#8)) = false) :
    s.zpPointer q = (word (s.peek (zext16 (q + 1#8))) (s.peek (zext16 q)),
      (s.noteCall (.read (zext16 q))).noteCall (.read (zext16 (q + 1#8)))) := by
  unfold State.zpPointer
  rw [State.busRead_plain _ h0]
  simp only [State.busRead_plain _ (show (s.noteCall _).bus.isMapped _ = false by simpa using h1)]
  rfl

@[simp] theorem resolve_a (r : MemRef) : (resolve r s).2.a = s.a := by cases r <;> simp [resolve]
@[simp] theorem resolve_x (r : MemRef) : (resolve r s).2.x = s.x := by cases r <;> simp [resolve]
@[simp] theorem resolve_y (r : MemRef) : (resolve r s).2.y = s.y := by cases r <;> simp [resolve]
@[simp] theorem resolve_sp (r : MemRef) : (resolve r s).2.sp = s.sp := by cases r <;> simp [resolve]
@[simp] theorem resolve_pc (r : MemRef) : (resolve r s).2.pc = s.pc := by cases r <;> simp [resolve]
@[simp] theorem resolve_p (r : MemRef) : (resolve r s).2.p = s.p := by cases r <;> simp [resolve]
@[simp] theorem resolve_ticks (r : MemRef) : (resolve r s).2.ticks = s.ticks := by cases r <;> simp [resolve]
@[simp] theorem resolve_mode (r : MemRef) : (resolve r s).2.mode = s.mode := by cases r <;> simp [resolve]
@[simp] theorem resolve_status (r : MemRef) : (resolve r s).2.status = s.status := by cases r <;> simp [resolve]
@[simp] theorem resolve_params (r : MemRef) : (resolve r s).2.params = s.params := by cases r <;> simp [resolve]
@[simp] theorem resolve_bus_mem (r : MemRef) : (resolve r s).2.bus.mem = s.bus.mem := by cases r <;> simp [resolve]
@[simp] theorem resolve_bus_mapped (r : MemRef) : (resolve r s).2.bus.mapped = s.bus.mapped := by cases r <;> simp [resolve]
@[simp] theorem resolve_bus_hooks (r : MemRef) : (resolve r s).2.bus.hooks = s.bus.hooks := by cases r <;> simp [resolve]
@[simp] theorem resolve_isMapped (r : MemRef) (x : Addr) : (resolve r s).2.bus.isMapped x = s.bus.isMapped x := State.isMapped_of_mapped (by simp) x
@[simp] theorem resolve_peek (r : MemRef) (x : Addr) : (resolve r s).2.peek x = s.peek x := by simp [State.peek]
@[simp] theorem resolveIndirect_a (w : Addr) : (resolveIndirect w s).2.a = s.a := by simp [resolveIndirect]
@[simp] theorem resolveIndirect_x (w : Addr) : (resolveIndirect w s).2.x = s.x := by simp [resolveIndirect]
@[simp] theorem resolveIndirect_y (w : Addr) : (resolveIndirect w s).2.y = s.y := by simp [resolveIndirect]
@[simp] theorem resolveIndirect_sp (w : Addr) : (resolveIndirect w s).2.sp = s.sp := by simp [resolveIndirect]
@[simp] theorem resolveIndirect_pc (w : Addr) : (resolveIndirect w s).2.pc = s.pc := by simp [resolveIndirect]
@[simp] theorem resolveIndirect_p (w : Addr) : (resolveIndirect w s).2.p = s.p := by simp [resolveIndirect]
@[simp] theorem resolveIndirect_ticks (w : Addr) : (resolveIndirect w s).2.ticks = s.ticks := by simp [resolveIndirect]
@[simp] theorem resolveIndirect_mode (w : Addr) : (resolveIndirect w s).2.mode = s.mode := by simp [resolveIndirect]
@[simp] theorem resolveIndirect_status (w : Addr) : (resolveIndirect w s).2.status = s.status := by simp [resolveIndirect]
@[simp] theorem resolveIndirect_params (w : Addr) : (resolveIndirect w s).2.params = s.params := by simp [resolveIndirect]
@[simp] theorem resolveIndirect_bus_mem (w : Addr) : (resolveIndirect w s).2.bus.mem = s.bus.mem := by simp [resolveIndirect]
@[simp] theorem resolveIndirect_bus_mapped (w : Addr) : (resolveIndirect w s).2.bus.mapped = s.bus.mapped := by simp [resolveIndirect]
@[simp] theorem resolveIndirect_bus_hooks (w : Addr) : (resolveIndirect w s).2.bus.hooks = s.bus.hooks := by simp [resolveIndirect]

/-! The shapes: each always gives a next state. -/

theorem onImmediate_eq (op : Byte) (use : Byte → State → State) (m : Byte) :
    onImmediate op use m s = .next ((use m s).charge op false false) := rfl

theorem onRead_eq (op : Byte) (use : Byte → State → State) (r : MemRef) :
    onRead op use r s =
      .next ((use ((resolve r s).2.busRead (resolve r s).1.ea).1 ((resolve r s).2.busRead (resolve r s).1.ea).2).charge op
        (resolve r s).1.cross false) := rfl

theorem onWrite_eq (op : Byte) (value : State → Byte) (r : MemRef) :
    onWrite op value r s =
      .next (((resolve r s).2.busWrite (resolve r s).1.ea (value (resolve r s).2)).charge op (resolve r s).1.cross false) :=
  rfl

theorem onModify_eq (op : Byte) (f : AluOp) (r : MemRef) :
    onModify op f r s =
      .next ((((((resolve r s).2.busRead (resolve r s).1.ea).2).busWrite (resolve r s).1.ea
        (alu f 0#8 ((resolve r s).2.busRead (resolve r s).1.ea).1 s.p).1).setP
        (alu f 0#8 ((resolve r s).2.busRead (resolve r s).1.ea).1 s.p).2).charge op (resolve r s).1.cross false) := by
  simp [onModify]

theorem onImplied_eq (op : Byte) (use : State → State) :
    onImplied op use s = .next ((use s).charge op false false) := rfl

theorem onBranch_eq (op : Byte) (cond : Flags → Bool) (b : Byte) :
    onBranch op cond b s =
      .next (if cond s.p then
          (s.setPc (branchTarget s.pc b)).charge op (pagesDiffer (branchTarget s.pc b) s.pc) true
        else s.charge op false false) := by
  unfold onBranch
  split <;> simp_all

/-! What the register operations set. -/

@[simp] theorem State.accOp_a (f : AluOp) (m : Byte) : (s.accOp f m).a = (alu f s.a m s.p).1 := rfl
@[simp] theorem State.accOp_x (f : AluOp) (m : Byte) : (s.accOp f m).x = s.x := rfl
@[simp] theorem State.accOp_y (f : AluOp) (m : Byte) : (s.accOp f m).y = s.y := rfl
@[simp] theorem State.accOp_sp (f : AluOp) (m : Byte) : (s.accOp f m).sp = s.sp := rfl
@[simp] theorem State.accOp_pc (f : AluOp) (m : Byte) : (s.accOp f m).pc = s.pc := rfl
@[simp] theorem State.accOp_p (f : AluOp) (m : Byte) : (s.accOp f m).p = (alu f s.a m s.p).2 := rfl
@[simp] theorem State.accOp_ticks (f : AluOp) (m : Byte) : (s.accOp f m).ticks = s.ticks := rfl
@[simp] theorem State.accOp_mode (f : AluOp) (m : Byte) : (s.accOp f m).mode = s.mode := rfl
@[simp] theorem State.accOp_status (f : AluOp) (m : Byte) : (s.accOp f m).status = s.status := rfl
@[simp] theorem State.accOp_params (f : AluOp) (m : Byte) : (s.accOp f m).params = s.params := rfl
@[simp] theorem State.accOp_bus (f : AluOp) (m : Byte) : (s.accOp f m).bus = s.bus := rfl
@[simp] theorem State.accOp_draws (f : AluOp) (m : Byte) : (s.accOp f m).draws = s.draws := rfl
@[simp] theorem State.xOp_a (f : AluOp) (m : Byte) : (s.xOp f m).a = s.a := rfl
@[simp] theorem State.xOp_x (f : AluOp) (m : Byte) : (s.xOp f m).x = (alu f 0#8 m s.p).1 := rfl
@[simp] theorem State.xOp_y (f : AluOp) (m : Byte) : (s.xOp f m).y = s.y := rfl
@[simp] theorem State.xOp_sp (f : AluOp) (m : Byte) : (s.xOp f m).sp = s.sp := rfl
@[simp] theorem State.xOp_pc (f : AluOp) (m : Byte) : (s.xOp f m).pc = s.pc := rfl
@[simp] theorem State.xOp_p (f : AluOp) (m : Byte) : (s.xOp f m).p = (alu f 0#8 m s.p).2 := rfl
@[simp] theorem State.xOp_ticks (f : AluOp) (m : Byte) : (s.xOp f m).ticks = s.ticks := rfl
@[simp] theorem State.xOp_mode (f : AluOp) (m : Byte) : (s.xOp f m).mode = s.mode := rfl
@[simp] theorem State.xOp_status (f : AluOp) (m : Byte) : (s.xOp f m).status = s.status := rfl
@[simp] theorem State.xOp_params (f : AluOp) (m : Byte) : (s.xOp f m).params = s.params := rfl
@[simp] theorem State.xOp_bus (f : AluOp) (m : Byte) : (s.xOp f m).bus = s.bus := rfl
@[simp] theorem State.xOp_draws (f : AluOp) (m : Byte) : (s.xOp f m).draws = s.draws := rfl
@[simp] theorem State.yOp_a (f : AluOp) (m : Byte) : (s.yOp f m).a = s.a := rfl
@[simp] theorem State.yOp_x (f : AluOp) (m : Byte) : (s.yOp f m).x = s.x := rfl
@[simp] theorem State.yOp_y (f : AluOp) (m : Byte) : (s.yOp f m).y = (alu f 0#8 m s.p).1 := rfl
@[simp] theorem State.yOp_sp (f : AluOp) (m : Byte) : (s.yOp f m).sp = s.sp := rfl
@[simp] theorem State.yOp_pc (f : AluOp) (m : Byte) : (s.yOp f m).pc = s.pc := rfl
@[simp] theorem State.yOp_p (f : AluOp) (m : Byte) : (s.yOp f m).p = (alu f 0#8 m s.p).2 := rfl
@[simp] theorem State.yOp_ticks (f : AluOp) (m : Byte) : (s.yOp f m).ticks = s.ticks := rfl
@[simp] theorem State.yOp_mode (f : AluOp) (m : Byte) : (s.yOp f m).mode = s.mode := rfl
@[simp] theorem State.yOp_status (f : AluOp) (m : Byte) : (s.yOp f m).status = s.status := rfl
@[simp] theorem State.yOp_params (f : AluOp) (m : Byte) : (s.yOp f m).params = s.params := rfl
@[simp] theorem State.yOp_bus (f : AluOp) (m : Byte) : (s.yOp f m).bus = s.bus := rfl
@[simp] theorem State.yOp_draws (f : AluOp) (m : Byte) : (s.yOp f m).draws = s.draws := rfl
@[simp] theorem State.testOp_a (f : AluOp) (reg m : Byte) : (s.testOp f reg m).a = s.a := rfl
@[simp] theorem State.testOp_x (f : AluOp) (reg m : Byte) : (s.testOp f reg m).x = s.x := rfl
@[simp] theorem State.testOp_y (f : AluOp) (reg m : Byte) : (s.testOp f reg m).y = s.y := rfl
@[simp] theorem State.testOp_sp (f : AluOp) (reg m : Byte) : (s.testOp f reg m).sp = s.sp := rfl
@[simp] theorem State.testOp_pc (f : AluOp) (reg m : Byte) : (s.testOp f reg m).pc = s.pc := rfl
@[simp] theorem State.testOp_p (f : AluOp) (reg m : Byte) : (s.testOp f reg m).p = (alu f reg m s.p).2 := rfl
@[simp] theorem State.testOp_ticks (f : AluOp) (reg m : Byte) : (s.testOp f reg m).ticks = s.ticks := rfl
@[simp] theorem State.testOp_mode (f : AluOp) (reg m : Byte) : (s.testOp f reg m).mode = s.mode := rfl
@[simp] theorem State.testOp_status (f : AluOp) (reg m : Byte) : (s.testOp f reg m).status = s.status := rfl
@[simp] theorem State.testOp_params (f : AluOp) (reg m : Byte) : (s.testOp f reg m).params = s.params := rfl
@[simp] theorem State.testOp_bus (f : AluOp) (reg m : Byte) : (s.testOp f reg m).bus = s.bus := rfl
@[simp] theorem State.testOp_draws (f : AluOp) (reg m : Byte) : (s.testOp f reg m).draws = s.draws := rfl

/-! Which flags the alu leaves alone (43 R161: "`p_out` equals `p_in` except for the flags the op writes"). -/

theorem alu_i (f : AluOp) (a m : Byte) (p : Flags) : (alu f a m p).2.i = p.i := by cases f <;> rfl
theorem alu_d (f : AluOp) (a m : Byte) (p : Flags) : (alu f a m p).2.d = p.d := by cases f <;> rfl
theorem alu_b (f : AluOp) (a m : Byte) (p : Flags) : (alu f a m p).2.b = p.b := by cases f <;> rfl

end Sys2Proof.Machine
end

