-- ==== Sys2Proof/Laws/Exec.lean ====
section
/-! SUPPORT. What each arm of exec is, in the shapes of Operands.lean, and what each opcode costs: one line a row, so that no proof unfolds a meaning or searches the opcode table. -/

namespace Sys2Proof.Machine

/-! The cycle count of each opcode (40 R85). -/

@[simp] theorem cyclesOf_ldaImm (cross taken : Bool) : cyclesOf 0xA9#8 cross taken = 2 := rfl
@[simp] theorem cyclesOf_ldaZp (cross taken : Bool) : cyclesOf 0xA5#8 cross taken = 3 := rfl
@[simp] theorem cyclesOf_ldaZpX (cross taken : Bool) : cyclesOf 0xB5#8 cross taken = 4 := rfl
@[simp] theorem cyclesOf_ldaAbs (cross taken : Bool) : cyclesOf 0xAD#8 cross taken = 4 := rfl
@[simp] theorem cyclesOf_ldaAbsX (cross taken : Bool) : cyclesOf 0xBD#8 cross taken = 4 + cross.toNat := rfl
@[simp] theorem cyclesOf_ldaAbsY (cross taken : Bool) : cyclesOf 0xB9#8 cross taken = 4 + cross.toNat := rfl
@[simp] theorem cyclesOf_ldaIndX (cross taken : Bool) : cyclesOf 0xA1#8 cross taken = 6 := rfl
@[simp] theorem cyclesOf_ldaIndY (cross taken : Bool) : cyclesOf 0xB1#8 cross taken = 5 + cross.toNat := rfl
@[simp] theorem cyclesOf_ldxImm (cross taken : Bool) : cyclesOf 0xA2#8 cross taken = 2 := rfl
@[simp] theorem cyclesOf_ldxZp (cross taken : Bool) : cyclesOf 0xA6#8 cross taken = 3 := rfl
@[simp] theorem cyclesOf_ldxZpY (cross taken : Bool) : cyclesOf 0xB6#8 cross taken = 4 := rfl
@[simp] theorem cyclesOf_ldxAbs (cross taken : Bool) : cyclesOf 0xAE#8 cross taken = 4 := rfl
@[simp] theorem cyclesOf_ldxAbsY (cross taken : Bool) : cyclesOf 0xBE#8 cross taken = 4 + cross.toNat := rfl
@[simp] theorem cyclesOf_ldyImm (cross taken : Bool) : cyclesOf 0xA0#8 cross taken = 2 := rfl
@[simp] theorem cyclesOf_ldyZp (cross taken : Bool) : cyclesOf 0xA4#8 cross taken = 3 := rfl
@[simp] theorem cyclesOf_ldyZpX (cross taken : Bool) : cyclesOf 0xB4#8 cross taken = 4 := rfl
@[simp] theorem cyclesOf_ldyAbs (cross taken : Bool) : cyclesOf 0xAC#8 cross taken = 4 := rfl
@[simp] theorem cyclesOf_ldyAbsX (cross taken : Bool) : cyclesOf 0xBC#8 cross taken = 4 + cross.toNat := rfl
@[simp] theorem cyclesOf_staZp (cross taken : Bool) : cyclesOf 0x85#8 cross taken = 3 := rfl
@[simp] theorem cyclesOf_staZpX (cross taken : Bool) : cyclesOf 0x95#8 cross taken = 4 := rfl
@[simp] theorem cyclesOf_staAbs (cross taken : Bool) : cyclesOf 0x8D#8 cross taken = 4 := rfl
@[simp] theorem cyclesOf_staAbsX (cross taken : Bool) : cyclesOf 0x9D#8 cross taken = 5 := rfl
@[simp] theorem cyclesOf_staAbsY (cross taken : Bool) : cyclesOf 0x99#8 cross taken = 5 := rfl
@[simp] theorem cyclesOf_staIndX (cross taken : Bool) : cyclesOf 0x81#8 cross taken = 6 := rfl
@[simp] theorem cyclesOf_staIndY (cross taken : Bool) : cyclesOf 0x91#8 cross taken = 6 := rfl
@[simp] theorem cyclesOf_stxZp (cross taken : Bool) : cyclesOf 0x86#8 cross taken = 3 := rfl
@[simp] theorem cyclesOf_stxZpY (cross taken : Bool) : cyclesOf 0x96#8 cross taken = 4 := rfl
@[simp] theorem cyclesOf_stxAbs (cross taken : Bool) : cyclesOf 0x8E#8 cross taken = 4 := rfl
@[simp] theorem cyclesOf_styZp (cross taken : Bool) : cyclesOf 0x84#8 cross taken = 3 := rfl
@[simp] theorem cyclesOf_styZpX (cross taken : Bool) : cyclesOf 0x94#8 cross taken = 4 := rfl
@[simp] theorem cyclesOf_styAbs (cross taken : Bool) : cyclesOf 0x8C#8 cross taken = 4 := rfl
@[simp] theorem cyclesOf_tax (cross taken : Bool) : cyclesOf 0xAA#8 cross taken = 2 := rfl
@[simp] theorem cyclesOf_tay (cross taken : Bool) : cyclesOf 0xA8#8 cross taken = 2 := rfl
@[simp] theorem cyclesOf_txa (cross taken : Bool) : cyclesOf 0x8A#8 cross taken = 2 := rfl
@[simp] theorem cyclesOf_tya (cross taken : Bool) : cyclesOf 0x98#8 cross taken = 2 := rfl
@[simp] theorem cyclesOf_tsx (cross taken : Bool) : cyclesOf 0xBA#8 cross taken = 2 := rfl
@[simp] theorem cyclesOf_txs (cross taken : Bool) : cyclesOf 0x9A#8 cross taken = 2 := rfl
@[simp] theorem cyclesOf_adcImm (cross taken : Bool) : cyclesOf 0x69#8 cross taken = 2 := rfl
@[simp] theorem cyclesOf_adcZp (cross taken : Bool) : cyclesOf 0x65#8 cross taken = 3 := rfl
@[simp] theorem cyclesOf_adcZpX (cross taken : Bool) : cyclesOf 0x75#8 cross taken = 4 := rfl
@[simp] theorem cyclesOf_adcAbs (cross taken : Bool) : cyclesOf 0x6D#8 cross taken = 4 := rfl
@[simp] theorem cyclesOf_adcAbsX (cross taken : Bool) : cyclesOf 0x7D#8 cross taken = 4 + cross.toNat := rfl
@[simp] theorem cyclesOf_adcAbsY (cross taken : Bool) : cyclesOf 0x79#8 cross taken = 4 + cross.toNat := rfl
@[simp] theorem cyclesOf_adcIndX (cross taken : Bool) : cyclesOf 0x61#8 cross taken = 6 := rfl
@[simp] theorem cyclesOf_adcIndY (cross taken : Bool) : cyclesOf 0x71#8 cross taken = 5 + cross.toNat := rfl
@[simp] theorem cyclesOf_sbcImm (cross taken : Bool) : cyclesOf 0xE9#8 cross taken = 2 := rfl
@[simp] theorem cyclesOf_sbcZp (cross taken : Bool) : cyclesOf 0xE5#8 cross taken = 3 := rfl
@[simp] theorem cyclesOf_sbcZpX (cross taken : Bool) : cyclesOf 0xF5#8 cross taken = 4 := rfl
@[simp] theorem cyclesOf_sbcAbs (cross taken : Bool) : cyclesOf 0xED#8 cross taken = 4 := rfl
@[simp] theorem cyclesOf_sbcAbsX (cross taken : Bool) : cyclesOf 0xFD#8 cross taken = 4 + cross.toNat := rfl
@[simp] theorem cyclesOf_sbcAbsY (cross taken : Bool) : cyclesOf 0xF9#8 cross taken = 4 + cross.toNat := rfl
@[simp] theorem cyclesOf_sbcIndX (cross taken : Bool) : cyclesOf 0xE1#8 cross taken = 6 := rfl
@[simp] theorem cyclesOf_sbcIndY (cross taken : Bool) : cyclesOf 0xF1#8 cross taken = 5 + cross.toNat := rfl
@[simp] theorem cyclesOf_andImm (cross taken : Bool) : cyclesOf 0x29#8 cross taken = 2 := rfl
@[simp] theorem cyclesOf_andZp (cross taken : Bool) : cyclesOf 0x25#8 cross taken = 3 := rfl
@[simp] theorem cyclesOf_andZpX (cross taken : Bool) : cyclesOf 0x35#8 cross taken = 4 := rfl
@[simp] theorem cyclesOf_andAbs (cross taken : Bool) : cyclesOf 0x2D#8 cross taken = 4 := rfl
@[simp] theorem cyclesOf_andAbsX (cross taken : Bool) : cyclesOf 0x3D#8 cross taken = 4 + cross.toNat := rfl
@[simp] theorem cyclesOf_andAbsY (cross taken : Bool) : cyclesOf 0x39#8 cross taken = 4 + cross.toNat := rfl
@[simp] theorem cyclesOf_andIndX (cross taken : Bool) : cyclesOf 0x21#8 cross taken = 6 := rfl
@[simp] theorem cyclesOf_andIndY (cross taken : Bool) : cyclesOf 0x31#8 cross taken = 5 + cross.toNat := rfl
@[simp] theorem cyclesOf_oraImm (cross taken : Bool) : cyclesOf 0x09#8 cross taken = 2 := rfl
@[simp] theorem cyclesOf_oraZp (cross taken : Bool) : cyclesOf 0x05#8 cross taken = 3 := rfl
@[simp] theorem cyclesOf_oraZpX (cross taken : Bool) : cyclesOf 0x15#8 cross taken = 4 := rfl
@[simp] theorem cyclesOf_oraAbs (cross taken : Bool) : cyclesOf 0x0D#8 cross taken = 4 := rfl
@[simp] theorem cyclesOf_oraAbsX (cross taken : Bool) : cyclesOf 0x1D#8 cross taken = 4 + cross.toNat := rfl
@[simp] theorem cyclesOf_oraAbsY (cross taken : Bool) : cyclesOf 0x19#8 cross taken = 4 + cross.toNat := rfl
@[simp] theorem cyclesOf_oraIndX (cross taken : Bool) : cyclesOf 0x01#8 cross taken = 6 := rfl
@[simp] theorem cyclesOf_oraIndY (cross taken : Bool) : cyclesOf 0x11#8 cross taken = 5 + cross.toNat := rfl
@[simp] theorem cyclesOf_eorImm (cross taken : Bool) : cyclesOf 0x49#8 cross taken = 2 := rfl
@[simp] theorem cyclesOf_eorZp (cross taken : Bool) : cyclesOf 0x45#8 cross taken = 3 := rfl
@[simp] theorem cyclesOf_eorZpX (cross taken : Bool) : cyclesOf 0x55#8 cross taken = 4 := rfl
@[simp] theorem cyclesOf_eorAbs (cross taken : Bool) : cyclesOf 0x4D#8 cross taken = 4 := rfl
@[simp] theorem cyclesOf_eorAbsX (cross taken : Bool) : cyclesOf 0x5D#8 cross taken = 4 + cross.toNat := rfl
@[simp] theorem cyclesOf_eorAbsY (cross taken : Bool) : cyclesOf 0x59#8 cross taken = 4 + cross.toNat := rfl
@[simp] theorem cyclesOf_eorIndX (cross taken : Bool) : cyclesOf 0x41#8 cross taken = 6 := rfl
@[simp] theorem cyclesOf_eorIndY (cross taken : Bool) : cyclesOf 0x51#8 cross taken = 5 + cross.toNat := rfl
@[simp] theorem cyclesOf_bitZp (cross taken : Bool) : cyclesOf 0x24#8 cross taken = 3 := rfl
@[simp] theorem cyclesOf_bitAbs (cross taken : Bool) : cyclesOf 0x2C#8 cross taken = 4 := rfl
@[simp] theorem cyclesOf_cmpImm (cross taken : Bool) : cyclesOf 0xC9#8 cross taken = 2 := rfl
@[simp] theorem cyclesOf_cmpZp (cross taken : Bool) : cyclesOf 0xC5#8 cross taken = 3 := rfl
@[simp] theorem cyclesOf_cmpZpX (cross taken : Bool) : cyclesOf 0xD5#8 cross taken = 4 := rfl
@[simp] theorem cyclesOf_cmpAbs (cross taken : Bool) : cyclesOf 0xCD#8 cross taken = 4 := rfl
@[simp] theorem cyclesOf_cmpAbsX (cross taken : Bool) : cyclesOf 0xDD#8 cross taken = 4 + cross.toNat := rfl
@[simp] theorem cyclesOf_cmpAbsY (cross taken : Bool) : cyclesOf 0xD9#8 cross taken = 4 + cross.toNat := rfl
@[simp] theorem cyclesOf_cmpIndX (cross taken : Bool) : cyclesOf 0xC1#8 cross taken = 6 := rfl
@[simp] theorem cyclesOf_cmpIndY (cross taken : Bool) : cyclesOf 0xD1#8 cross taken = 5 + cross.toNat := rfl
@[simp] theorem cyclesOf_cpxImm (cross taken : Bool) : cyclesOf 0xE0#8 cross taken = 2 := rfl
@[simp] theorem cyclesOf_cpxZp (cross taken : Bool) : cyclesOf 0xE4#8 cross taken = 3 := rfl
@[simp] theorem cyclesOf_cpxAbs (cross taken : Bool) : cyclesOf 0xEC#8 cross taken = 4 := rfl
@[simp] theorem cyclesOf_cpyImm (cross taken : Bool) : cyclesOf 0xC0#8 cross taken = 2 := rfl
@[simp] theorem cyclesOf_cpyZp (cross taken : Bool) : cyclesOf 0xC4#8 cross taken = 3 := rfl
@[simp] theorem cyclesOf_cpyAbs (cross taken : Bool) : cyclesOf 0xCC#8 cross taken = 4 := rfl
@[simp] theorem cyclesOf_incZp (cross taken : Bool) : cyclesOf 0xE6#8 cross taken = 5 := rfl
@[simp] theorem cyclesOf_incZpX (cross taken : Bool) : cyclesOf 0xF6#8 cross taken = 6 := rfl
@[simp] theorem cyclesOf_incAbs (cross taken : Bool) : cyclesOf 0xEE#8 cross taken = 6 := rfl
@[simp] theorem cyclesOf_incAbsX (cross taken : Bool) : cyclesOf 0xFE#8 cross taken = 7 := rfl
@[simp] theorem cyclesOf_decZp (cross taken : Bool) : cyclesOf 0xC6#8 cross taken = 5 := rfl
@[simp] theorem cyclesOf_decZpX (cross taken : Bool) : cyclesOf 0xD6#8 cross taken = 6 := rfl
@[simp] theorem cyclesOf_decAbs (cross taken : Bool) : cyclesOf 0xCE#8 cross taken = 6 := rfl
@[simp] theorem cyclesOf_decAbsX (cross taken : Bool) : cyclesOf 0xDE#8 cross taken = 7 := rfl
@[simp] theorem cyclesOf_inx (cross taken : Bool) : cyclesOf 0xE8#8 cross taken = 2 := rfl
@[simp] theorem cyclesOf_iny (cross taken : Bool) : cyclesOf 0xC8#8 cross taken = 2 := rfl
@[simp] theorem cyclesOf_dex (cross taken : Bool) : cyclesOf 0xCA#8 cross taken = 2 := rfl
@[simp] theorem cyclesOf_dey (cross taken : Bool) : cyclesOf 0x88#8 cross taken = 2 := rfl
@[simp] theorem cyclesOf_aslZp (cross taken : Bool) : cyclesOf 0x06#8 cross taken = 5 := rfl
@[simp] theorem cyclesOf_aslZpX (cross taken : Bool) : cyclesOf 0x16#8 cross taken = 6 := rfl
@[simp] theorem cyclesOf_aslAbs (cross taken : Bool) : cyclesOf 0x0E#8 cross taken = 6 := rfl
@[simp] theorem cyclesOf_aslAbsX (cross taken : Bool) : cyclesOf 0x1E#8 cross taken = 7 := rfl
@[simp] theorem cyclesOf_aslAcc (cross taken : Bool) : cyclesOf 0x0A#8 cross taken = 2 := rfl
@[simp] theorem cyclesOf_lsrZp (cross taken : Bool) : cyclesOf 0x46#8 cross taken = 5 := rfl
@[simp] theorem cyclesOf_lsrZpX (cross taken : Bool) : cyclesOf 0x56#8 cross taken = 6 := rfl
@[simp] theorem cyclesOf_lsrAbs (cross taken : Bool) : cyclesOf 0x4E#8 cross taken = 6 := rfl
@[simp] theorem cyclesOf_lsrAbsX (cross taken : Bool) : cyclesOf 0x5E#8 cross taken = 7 := rfl
@[simp] theorem cyclesOf_lsrAcc (cross taken : Bool) : cyclesOf 0x4A#8 cross taken = 2 := rfl
@[simp] theorem cyclesOf_rolZp (cross taken : Bool) : cyclesOf 0x26#8 cross taken = 5 := rfl
@[simp] theorem cyclesOf_rolZpX (cross taken : Bool) : cyclesOf 0x36#8 cross taken = 6 := rfl
@[simp] theorem cyclesOf_rolAbs (cross taken : Bool) : cyclesOf 0x2E#8 cross taken = 6 := rfl
@[simp] theorem cyclesOf_rolAbsX (cross taken : Bool) : cyclesOf 0x3E#8 cross taken = 7 := rfl
@[simp] theorem cyclesOf_rolAcc (cross taken : Bool) : cyclesOf 0x2A#8 cross taken = 2 := rfl
@[simp] theorem cyclesOf_rorZp (cross taken : Bool) : cyclesOf 0x66#8 cross taken = 5 := rfl
@[simp] theorem cyclesOf_rorZpX (cross taken : Bool) : cyclesOf 0x76#8 cross taken = 6 := rfl
@[simp] theorem cyclesOf_rorAbs (cross taken : Bool) : cyclesOf 0x6E#8 cross taken = 6 := rfl
@[simp] theorem cyclesOf_rorAbsX (cross taken : Bool) : cyclesOf 0x7E#8 cross taken = 7 := rfl
@[simp] theorem cyclesOf_rorAcc (cross taken : Bool) : cyclesOf 0x6A#8 cross taken = 2 := rfl
@[simp] theorem cyclesOf_bcc (cross taken : Bool) : cyclesOf 0x90#8 cross taken = 2 + (taken.toNat + (taken && cross).toNat) := rfl
@[simp] theorem cyclesOf_bcs (cross taken : Bool) : cyclesOf 0xB0#8 cross taken = 2 + (taken.toNat + (taken && cross).toNat) := rfl
@[simp] theorem cyclesOf_beq (cross taken : Bool) : cyclesOf 0xF0#8 cross taken = 2 + (taken.toNat + (taken && cross).toNat) := rfl
@[simp] theorem cyclesOf_bmi (cross taken : Bool) : cyclesOf 0x30#8 cross taken = 2 + (taken.toNat + (taken && cross).toNat) := rfl
@[simp] theorem cyclesOf_bne (cross taken : Bool) : cyclesOf 0xD0#8 cross taken = 2 + (taken.toNat + (taken && cross).toNat) := rfl
@[simp] theorem cyclesOf_bpl (cross taken : Bool) : cyclesOf 0x10#8 cross taken = 2 + (taken.toNat + (taken && cross).toNat) := rfl
@[simp] theorem cyclesOf_bvc (cross taken : Bool) : cyclesOf 0x50#8 cross taken = 2 + (taken.toNat + (taken && cross).toNat) := rfl
@[simp] theorem cyclesOf_bvs (cross taken : Bool) : cyclesOf 0x70#8 cross taken = 2 + (taken.toNat + (taken && cross).toNat) := rfl
@[simp] theorem cyclesOf_jmpAbs (cross taken : Bool) : cyclesOf 0x4C#8 cross taken = 3 := rfl
@[simp] theorem cyclesOf_jmpInd (cross taken : Bool) : cyclesOf 0x6C#8 cross taken = 5 := rfl
@[simp] theorem cyclesOf_jsr (cross taken : Bool) : cyclesOf 0x20#8 cross taken = 6 := rfl
@[simp] theorem cyclesOf_rts (cross taken : Bool) : cyclesOf 0x60#8 cross taken = 6 := rfl
@[simp] theorem cyclesOf_rti (cross taken : Bool) : cyclesOf 0x40#8 cross taken = 6 := rfl
@[simp] theorem cyclesOf_brk (cross taken : Bool) : cyclesOf 0x00#8 cross taken = 7 := rfl
@[simp] theorem cyclesOf_pha (cross taken : Bool) : cyclesOf 0x48#8 cross taken = 3 := rfl
@[simp] theorem cyclesOf_php (cross taken : Bool) : cyclesOf 0x08#8 cross taken = 3 := rfl
@[simp] theorem cyclesOf_pla (cross taken : Bool) : cyclesOf 0x68#8 cross taken = 4 := rfl
@[simp] theorem cyclesOf_plp (cross taken : Bool) : cyclesOf 0x28#8 cross taken = 4 := rfl
@[simp] theorem cyclesOf_clc (cross taken : Bool) : cyclesOf 0x18#8 cross taken = 2 := rfl
@[simp] theorem cyclesOf_cld (cross taken : Bool) : cyclesOf 0xD8#8 cross taken = 2 := rfl
@[simp] theorem cyclesOf_cli (cross taken : Bool) : cyclesOf 0x58#8 cross taken = 2 := rfl
@[simp] theorem cyclesOf_clv (cross taken : Bool) : cyclesOf 0xB8#8 cross taken = 2 := rfl
@[simp] theorem cyclesOf_sec (cross taken : Bool) : cyclesOf 0x38#8 cross taken = 2 := rfl
@[simp] theorem cyclesOf_sed (cross taken : Bool) : cyclesOf 0xF8#8 cross taken = 2 := rfl
@[simp] theorem cyclesOf_sei (cross taken : Bool) : cyclesOf 0x78#8 cross taken = 2 := rfl
@[simp] theorem cyclesOf_nop (cross taken : Bool) : cyclesOf 0xEA#8 cross taken = 2 := rfl

/-! The arms of exec that are one shape. JMP, JSR, RTS and BRK are not: unfold those. -/

@[simp] theorem exec_ldaImm (m : Byte) (s : State) : exec (.ldaImm m) s = onImmediate 0xA9#8 (State.accOp .pass) m s := rfl
@[simp] theorem exec_ldaZp (zp : Byte) (s : State) : exec (.ldaZp zp) s = onRead 0xA5#8 (State.accOp .pass) (.zp zp) s := rfl
@[simp] theorem exec_ldaZpX (zp : Byte) (s : State) : exec (.ldaZpX zp) s = onRead 0xB5#8 (State.accOp .pass) (.zpX zp) s := rfl
@[simp] theorem exec_ldaAbs (addr : Addr) (s : State) : exec (.ldaAbs addr) s = onRead 0xAD#8 (State.accOp .pass) (.abs addr) s := rfl
@[simp] theorem exec_ldaAbsX (addr : Addr) (s : State) : exec (.ldaAbsX addr) s = onRead 0xBD#8 (State.accOp .pass) (.absX addr) s := rfl
@[simp] theorem exec_ldaAbsY (addr : Addr) (s : State) : exec (.ldaAbsY addr) s = onRead 0xB9#8 (State.accOp .pass) (.absY addr) s := rfl
@[simp] theorem exec_ldaIndX (zp : Byte) (s : State) : exec (.ldaIndX zp) s = onRead 0xA1#8 (State.accOp .pass) (.indX zp) s := rfl
@[simp] theorem exec_ldaIndY (zp : Byte) (s : State) : exec (.ldaIndY zp) s = onRead 0xB1#8 (State.accOp .pass) (.indY zp) s := rfl
@[simp] theorem exec_ldxImm (m : Byte) (s : State) : exec (.ldxImm m) s = onImmediate 0xA2#8 (State.xOp .pass) m s := rfl
@[simp] theorem exec_ldxZp (zp : Byte) (s : State) : exec (.ldxZp zp) s = onRead 0xA6#8 (State.xOp .pass) (.zp zp) s := rfl
@[simp] theorem exec_ldxZpY (zp : Byte) (s : State) : exec (.ldxZpY zp) s = onRead 0xB6#8 (State.xOp .pass) (.zpY zp) s := rfl
@[simp] theorem exec_ldxAbs (addr : Addr) (s : State) : exec (.ldxAbs addr) s = onRead 0xAE#8 (State.xOp .pass) (.abs addr) s := rfl
@[simp] theorem exec_ldxAbsY (addr : Addr) (s : State) : exec (.ldxAbsY addr) s = onRead 0xBE#8 (State.xOp .pass) (.absY addr) s := rfl
@[simp] theorem exec_ldyImm (m : Byte) (s : State) : exec (.ldyImm m) s = onImmediate 0xA0#8 (State.yOp .pass) m s := rfl
@[simp] theorem exec_ldyZp (zp : Byte) (s : State) : exec (.ldyZp zp) s = onRead 0xA4#8 (State.yOp .pass) (.zp zp) s := rfl
@[simp] theorem exec_ldyZpX (zp : Byte) (s : State) : exec (.ldyZpX zp) s = onRead 0xB4#8 (State.yOp .pass) (.zpX zp) s := rfl
@[simp] theorem exec_ldyAbs (addr : Addr) (s : State) : exec (.ldyAbs addr) s = onRead 0xAC#8 (State.yOp .pass) (.abs addr) s := rfl
@[simp] theorem exec_ldyAbsX (addr : Addr) (s : State) : exec (.ldyAbsX addr) s = onRead 0xBC#8 (State.yOp .pass) (.absX addr) s := rfl
@[simp] theorem exec_staZp (zp : Byte) (s : State) : exec (.staZp zp) s = onWrite 0x85#8 State.a (.zp zp) s := rfl
@[simp] theorem exec_staZpX (zp : Byte) (s : State) : exec (.staZpX zp) s = onWrite 0x95#8 State.a (.zpX zp) s := rfl
@[simp] theorem exec_staAbs (addr : Addr) (s : State) : exec (.staAbs addr) s = onWrite 0x8D#8 State.a (.abs addr) s := rfl
@[simp] theorem exec_staAbsX (addr : Addr) (s : State) : exec (.staAbsX addr) s = onWrite 0x9D#8 State.a (.absX addr) s := rfl
@[simp] theorem exec_staAbsY (addr : Addr) (s : State) : exec (.staAbsY addr) s = onWrite 0x99#8 State.a (.absY addr) s := rfl
@[simp] theorem exec_staIndX (zp : Byte) (s : State) : exec (.staIndX zp) s = onWrite 0x81#8 State.a (.indX zp) s := rfl
@[simp] theorem exec_staIndY (zp : Byte) (s : State) : exec (.staIndY zp) s = onWrite 0x91#8 State.a (.indY zp) s := rfl
@[simp] theorem exec_stxZp (zp : Byte) (s : State) : exec (.stxZp zp) s = onWrite 0x86#8 State.x (.zp zp) s := rfl
@[simp] theorem exec_stxZpY (zp : Byte) (s : State) : exec (.stxZpY zp) s = onWrite 0x96#8 State.x (.zpY zp) s := rfl
@[simp] theorem exec_stxAbs (addr : Addr) (s : State) : exec (.stxAbs addr) s = onWrite 0x8E#8 State.x (.abs addr) s := rfl
@[simp] theorem exec_styZp (zp : Byte) (s : State) : exec (.styZp zp) s = onWrite 0x84#8 State.y (.zp zp) s := rfl
@[simp] theorem exec_styZpX (zp : Byte) (s : State) : exec (.styZpX zp) s = onWrite 0x94#8 State.y (.zpX zp) s := rfl
@[simp] theorem exec_styAbs (addr : Addr) (s : State) : exec (.styAbs addr) s = onWrite 0x8C#8 State.y (.abs addr) s := rfl
@[simp] theorem exec_tax (s : State) : exec .tax s = onImplied 0xAA#8 (fun t => t.xOp .pass t.a) s := rfl
@[simp] theorem exec_tay (s : State) : exec .tay s = onImplied 0xA8#8 (fun t => t.yOp .pass t.a) s := rfl
@[simp] theorem exec_txa (s : State) : exec .txa s = onImplied 0x8A#8 (fun t => t.accOp .pass t.x) s := rfl
@[simp] theorem exec_tya (s : State) : exec .tya s = onImplied 0x98#8 (fun t => t.accOp .pass t.y) s := rfl
@[simp] theorem exec_tsx (s : State) : exec .tsx s = onImplied 0xBA#8 (fun t => t.xOp .pass t.sp) s := rfl
@[simp] theorem exec_txs (s : State) : exec .txs s = onImplied 0x9A#8 (fun t => t.setSp t.x) s := rfl
@[simp] theorem exec_adcImm (m : Byte) (s : State) : exec (.adcImm m) s = onImmediate 0x69#8 (State.accOp .add) m s := rfl
@[simp] theorem exec_adcZp (zp : Byte) (s : State) : exec (.adcZp zp) s = onRead 0x65#8 (State.accOp .add) (.zp zp) s := rfl
@[simp] theorem exec_adcZpX (zp : Byte) (s : State) : exec (.adcZpX zp) s = onRead 0x75#8 (State.accOp .add) (.zpX zp) s := rfl
@[simp] theorem exec_adcAbs (addr : Addr) (s : State) : exec (.adcAbs addr) s = onRead 0x6D#8 (State.accOp .add) (.abs addr) s := rfl
@[simp] theorem exec_adcAbsX (addr : Addr) (s : State) : exec (.adcAbsX addr) s = onRead 0x7D#8 (State.accOp .add) (.absX addr) s := rfl
@[simp] theorem exec_adcAbsY (addr : Addr) (s : State) : exec (.adcAbsY addr) s = onRead 0x79#8 (State.accOp .add) (.absY addr) s := rfl
@[simp] theorem exec_adcIndX (zp : Byte) (s : State) : exec (.adcIndX zp) s = onRead 0x61#8 (State.accOp .add) (.indX zp) s := rfl
@[simp] theorem exec_adcIndY (zp : Byte) (s : State) : exec (.adcIndY zp) s = onRead 0x71#8 (State.accOp .add) (.indY zp) s := rfl
@[simp] theorem exec_sbcImm (m : Byte) (s : State) : exec (.sbcImm m) s = onImmediate 0xE9#8 (State.accOp .sub) m s := rfl
@[simp] theorem exec_sbcZp (zp : Byte) (s : State) : exec (.sbcZp zp) s = onRead 0xE5#8 (State.accOp .sub) (.zp zp) s := rfl
@[simp] theorem exec_sbcZpX (zp : Byte) (s : State) : exec (.sbcZpX zp) s = onRead 0xF5#8 (State.accOp .sub) (.zpX zp) s := rfl
@[simp] theorem exec_sbcAbs (addr : Addr) (s : State) : exec (.sbcAbs addr) s = onRead 0xED#8 (State.accOp .sub) (.abs addr) s := rfl
@[simp] theorem exec_sbcAbsX (addr : Addr) (s : State) : exec (.sbcAbsX addr) s = onRead 0xFD#8 (State.accOp .sub) (.absX addr) s := rfl
@[simp] theorem exec_sbcAbsY (addr : Addr) (s : State) : exec (.sbcAbsY addr) s = onRead 0xF9#8 (State.accOp .sub) (.absY addr) s := rfl
@[simp] theorem exec_sbcIndX (zp : Byte) (s : State) : exec (.sbcIndX zp) s = onRead 0xE1#8 (State.accOp .sub) (.indX zp) s := rfl
@[simp] theorem exec_sbcIndY (zp : Byte) (s : State) : exec (.sbcIndY zp) s = onRead 0xF1#8 (State.accOp .sub) (.indY zp) s := rfl
@[simp] theorem exec_andImm (m : Byte) (s : State) : exec (.andImm m) s = onImmediate 0x29#8 (State.accOp .and) m s := rfl
@[simp] theorem exec_andZp (zp : Byte) (s : State) : exec (.andZp zp) s = onRead 0x25#8 (State.accOp .and) (.zp zp) s := rfl
@[simp] theorem exec_andZpX (zp : Byte) (s : State) : exec (.andZpX zp) s = onRead 0x35#8 (State.accOp .and) (.zpX zp) s := rfl
@[simp] theorem exec_andAbs (addr : Addr) (s : State) : exec (.andAbs addr) s = onRead 0x2D#8 (State.accOp .and) (.abs addr) s := rfl
@[simp] theorem exec_andAbsX (addr : Addr) (s : State) : exec (.andAbsX addr) s = onRead 0x3D#8 (State.accOp .and) (.absX addr) s := rfl
@[simp] theorem exec_andAbsY (addr : Addr) (s : State) : exec (.andAbsY addr) s = onRead 0x39#8 (State.accOp .and) (.absY addr) s := rfl
@[simp] theorem exec_andIndX (zp : Byte) (s : State) : exec (.andIndX zp) s = onRead 0x21#8 (State.accOp .and) (.indX zp) s := rfl
@[simp] theorem exec_andIndY (zp : Byte) (s : State) : exec (.andIndY zp) s = onRead 0x31#8 (State.accOp .and) (.indY zp) s := rfl
@[simp] theorem exec_oraImm (m : Byte) (s : State) : exec (.oraImm m) s = onImmediate 0x09#8 (State.accOp .or) m s := rfl
@[simp] theorem exec_oraZp (zp : Byte) (s : State) : exec (.oraZp zp) s = onRead 0x05#8 (State.accOp .or) (.zp zp) s := rfl
@[simp] theorem exec_oraZpX (zp : Byte) (s : State) : exec (.oraZpX zp) s = onRead 0x15#8 (State.accOp .or) (.zpX zp) s := rfl
@[simp] theorem exec_oraAbs (addr : Addr) (s : State) : exec (.oraAbs addr) s = onRead 0x0D#8 (State.accOp .or) (.abs addr) s := rfl
@[simp] theorem exec_oraAbsX (addr : Addr) (s : State) : exec (.oraAbsX addr) s = onRead 0x1D#8 (State.accOp .or) (.absX addr) s := rfl
@[simp] theorem exec_oraAbsY (addr : Addr) (s : State) : exec (.oraAbsY addr) s = onRead 0x19#8 (State.accOp .or) (.absY addr) s := rfl
@[simp] theorem exec_oraIndX (zp : Byte) (s : State) : exec (.oraIndX zp) s = onRead 0x01#8 (State.accOp .or) (.indX zp) s := rfl
@[simp] theorem exec_oraIndY (zp : Byte) (s : State) : exec (.oraIndY zp) s = onRead 0x11#8 (State.accOp .or) (.indY zp) s := rfl
@[simp] theorem exec_eorImm (m : Byte) (s : State) : exec (.eorImm m) s = onImmediate 0x49#8 (State.accOp .xor) m s := rfl
@[simp] theorem exec_eorZp (zp : Byte) (s : State) : exec (.eorZp zp) s = onRead 0x45#8 (State.accOp .xor) (.zp zp) s := rfl
@[simp] theorem exec_eorZpX (zp : Byte) (s : State) : exec (.eorZpX zp) s = onRead 0x55#8 (State.accOp .xor) (.zpX zp) s := rfl
@[simp] theorem exec_eorAbs (addr : Addr) (s : State) : exec (.eorAbs addr) s = onRead 0x4D#8 (State.accOp .xor) (.abs addr) s := rfl
@[simp] theorem exec_eorAbsX (addr : Addr) (s : State) : exec (.eorAbsX addr) s = onRead 0x5D#8 (State.accOp .xor) (.absX addr) s := rfl
@[simp] theorem exec_eorAbsY (addr : Addr) (s : State) : exec (.eorAbsY addr) s = onRead 0x59#8 (State.accOp .xor) (.absY addr) s := rfl
@[simp] theorem exec_eorIndX (zp : Byte) (s : State) : exec (.eorIndX zp) s = onRead 0x41#8 (State.accOp .xor) (.indX zp) s := rfl
@[simp] theorem exec_eorIndY (zp : Byte) (s : State) : exec (.eorIndY zp) s = onRead 0x51#8 (State.accOp .xor) (.indY zp) s := rfl
@[simp] theorem exec_bitZp (zp : Byte) (s : State) : exec (.bitZp zp) s = onRead 0x24#8 (fun m t => t.testOp .bit t.a m) (.zp zp) s := rfl
@[simp] theorem exec_bitAbs (addr : Addr) (s : State) : exec (.bitAbs addr) s = onRead 0x2C#8 (fun m t => t.testOp .bit t.a m) (.abs addr) s := rfl
@[simp] theorem exec_cmpImm (m : Byte) (s : State) : exec (.cmpImm m) s = onImmediate 0xC9#8 (fun m t => t.testOp .cmp t.a m) m s := rfl
@[simp] theorem exec_cmpZp (zp : Byte) (s : State) : exec (.cmpZp zp) s = onRead 0xC5#8 (fun m t => t.testOp .cmp t.a m) (.zp zp) s := rfl
@[simp] theorem exec_cmpZpX (zp : Byte) (s : State) : exec (.cmpZpX zp) s = onRead 0xD5#8 (fun m t => t.testOp .cmp t.a m) (.zpX zp) s := rfl
@[simp] theorem exec_cmpAbs (addr : Addr) (s : State) : exec (.cmpAbs addr) s = onRead 0xCD#8 (fun m t => t.testOp .cmp t.a m) (.abs addr) s := rfl
@[simp] theorem exec_cmpAbsX (addr : Addr) (s : State) : exec (.cmpAbsX addr) s = onRead 0xDD#8 (fun m t => t.testOp .cmp t.a m) (.absX addr) s := rfl
@[simp] theorem exec_cmpAbsY (addr : Addr) (s : State) : exec (.cmpAbsY addr) s = onRead 0xD9#8 (fun m t => t.testOp .cmp t.a m) (.absY addr) s := rfl
@[simp] theorem exec_cmpIndX (zp : Byte) (s : State) : exec (.cmpIndX zp) s = onRead 0xC1#8 (fun m t => t.testOp .cmp t.a m) (.indX zp) s := rfl
@[simp] theorem exec_cmpIndY (zp : Byte) (s : State) : exec (.cmpIndY zp) s = onRead 0xD1#8 (fun m t => t.testOp .cmp t.a m) (.indY zp) s := rfl
@[simp] theorem exec_cpxImm (m : Byte) (s : State) : exec (.cpxImm m) s = onImmediate 0xE0#8 (fun m t => t.testOp .cmp t.x m) m s := rfl
@[simp] theorem exec_cpxZp (zp : Byte) (s : State) : exec (.cpxZp zp) s = onRead 0xE4#8 (fun m t => t.testOp .cmp t.x m) (.zp zp) s := rfl
@[simp] theorem exec_cpxAbs (addr : Addr) (s : State) : exec (.cpxAbs addr) s = onRead 0xEC#8 (fun m t => t.testOp .cmp t.x m) (.abs addr) s := rfl
@[simp] theorem exec_cpyImm (m : Byte) (s : State) : exec (.cpyImm m) s = onImmediate 0xC0#8 (fun m t => t.testOp .cmp t.y m) m s := rfl
@[simp] theorem exec_cpyZp (zp : Byte) (s : State) : exec (.cpyZp zp) s = onRead 0xC4#8 (fun m t => t.testOp .cmp t.y m) (.zp zp) s := rfl
@[simp] theorem exec_cpyAbs (addr : Addr) (s : State) : exec (.cpyAbs addr) s = onRead 0xCC#8 (fun m t => t.testOp .cmp t.y m) (.abs addr) s := rfl
@[simp] theorem exec_incZp (zp : Byte) (s : State) : exec (.incZp zp) s = onModify 0xE6#8 .inc (.zp zp) s := rfl
@[simp] theorem exec_incZpX (zp : Byte) (s : State) : exec (.incZpX zp) s = onModify 0xF6#8 .inc (.zpX zp) s := rfl
@[simp] theorem exec_incAbs (addr : Addr) (s : State) : exec (.incAbs addr) s = onModify 0xEE#8 .inc (.abs addr) s := rfl
@[simp] theorem exec_incAbsX (addr : Addr) (s : State) : exec (.incAbsX addr) s = onModify 0xFE#8 .inc (.absX addr) s := rfl
@[simp] theorem exec_decZp (zp : Byte) (s : State) : exec (.decZp zp) s = onModify 0xC6#8 .dec (.zp zp) s := rfl
@[simp] theorem exec_decZpX (zp : Byte) (s : State) : exec (.decZpX zp) s = onModify 0xD6#8 .dec (.zpX zp) s := rfl
@[simp] theorem exec_decAbs (addr : Addr) (s : State) : exec (.decAbs addr) s = onModify 0xCE#8 .dec (.abs addr) s := rfl
@[simp] theorem exec_decAbsX (addr : Addr) (s : State) : exec (.decAbsX addr) s = onModify 0xDE#8 .dec (.absX addr) s := rfl
@[simp] theorem exec_inx (s : State) : exec .inx s = onImplied 0xE8#8 (fun t => t.xOp .inc t.x) s := rfl
@[simp] theorem exec_iny (s : State) : exec .iny s = onImplied 0xC8#8 (fun t => t.yOp .inc t.y) s := rfl
@[simp] theorem exec_dex (s : State) : exec .dex s = onImplied 0xCA#8 (fun t => t.xOp .dec t.x) s := rfl
@[simp] theorem exec_dey (s : State) : exec .dey s = onImplied 0x88#8 (fun t => t.yOp .dec t.y) s := rfl
@[simp] theorem exec_aslZp (zp : Byte) (s : State) : exec (.aslZp zp) s = onModify 0x06#8 .asl (.zp zp) s := rfl
@[simp] theorem exec_aslZpX (zp : Byte) (s : State) : exec (.aslZpX zp) s = onModify 0x16#8 .asl (.zpX zp) s := rfl
@[simp] theorem exec_aslAbs (addr : Addr) (s : State) : exec (.aslAbs addr) s = onModify 0x0E#8 .asl (.abs addr) s := rfl
@[simp] theorem exec_aslAbsX (addr : Addr) (s : State) : exec (.aslAbsX addr) s = onModify 0x1E#8 .asl (.absX addr) s := rfl
@[simp] theorem exec_aslAcc (s : State) : exec .aslAcc s = onImplied 0x0A#8 (fun t => t.accOp .asl t.a) s := rfl
@[simp] theorem exec_lsrZp (zp : Byte) (s : State) : exec (.lsrZp zp) s = onModify 0x46#8 .lsr (.zp zp) s := rfl
@[simp] theorem exec_lsrZpX (zp : Byte) (s : State) : exec (.lsrZpX zp) s = onModify 0x56#8 .lsr (.zpX zp) s := rfl
@[simp] theorem exec_lsrAbs (addr : Addr) (s : State) : exec (.lsrAbs addr) s = onModify 0x4E#8 .lsr (.abs addr) s := rfl
@[simp] theorem exec_lsrAbsX (addr : Addr) (s : State) : exec (.lsrAbsX addr) s = onModify 0x5E#8 .lsr (.absX addr) s := rfl
@[simp] theorem exec_lsrAcc (s : State) : exec .lsrAcc s = onImplied 0x4A#8 (fun t => t.accOp .lsr t.a) s := rfl
@[simp] theorem exec_rolZp (zp : Byte) (s : State) : exec (.rolZp zp) s = onModify 0x26#8 .rol (.zp zp) s := rfl
@[simp] theorem exec_rolZpX (zp : Byte) (s : State) : exec (.rolZpX zp) s = onModify 0x36#8 .rol (.zpX zp) s := rfl
@[simp] theorem exec_rolAbs (addr : Addr) (s : State) : exec (.rolAbs addr) s = onModify 0x2E#8 .rol (.abs addr) s := rfl
@[simp] theorem exec_rolAbsX (addr : Addr) (s : State) : exec (.rolAbsX addr) s = onModify 0x3E#8 .rol (.absX addr) s := rfl
@[simp] theorem exec_rolAcc (s : State) : exec .rolAcc s = onImplied 0x2A#8 (fun t => t.accOp .rol t.a) s := rfl
@[simp] theorem exec_rorZp (zp : Byte) (s : State) : exec (.rorZp zp) s = onModify 0x66#8 .ror (.zp zp) s := rfl
@[simp] theorem exec_rorZpX (zp : Byte) (s : State) : exec (.rorZpX zp) s = onModify 0x76#8 .ror (.zpX zp) s := rfl
@[simp] theorem exec_rorAbs (addr : Addr) (s : State) : exec (.rorAbs addr) s = onModify 0x6E#8 .ror (.abs addr) s := rfl
@[simp] theorem exec_rorAbsX (addr : Addr) (s : State) : exec (.rorAbsX addr) s = onModify 0x7E#8 .ror (.absX addr) s := rfl
@[simp] theorem exec_rorAcc (s : State) : exec .rorAcc s = onImplied 0x6A#8 (fun t => t.accOp .ror t.a) s := rfl
@[simp] theorem exec_bcc (rel : Byte) (s : State) : exec (.bcc rel) s = onBranch 0x90#8 (fun q => !q.c) rel s := rfl
@[simp] theorem exec_bcs (rel : Byte) (s : State) : exec (.bcs rel) s = onBranch 0xB0#8 (fun q => q.c) rel s := rfl
@[simp] theorem exec_beq (rel : Byte) (s : State) : exec (.beq rel) s = onBranch 0xF0#8 (fun q => q.z) rel s := rfl
@[simp] theorem exec_bmi (rel : Byte) (s : State) : exec (.bmi rel) s = onBranch 0x30#8 (fun q => q.n) rel s := rfl
@[simp] theorem exec_bne (rel : Byte) (s : State) : exec (.bne rel) s = onBranch 0xD0#8 (fun q => !q.z) rel s := rfl
@[simp] theorem exec_bpl (rel : Byte) (s : State) : exec (.bpl rel) s = onBranch 0x10#8 (fun q => !q.n) rel s := rfl
@[simp] theorem exec_bvc (rel : Byte) (s : State) : exec (.bvc rel) s = onBranch 0x50#8 (fun q => !q.v) rel s := rfl
@[simp] theorem exec_bvs (rel : Byte) (s : State) : exec (.bvs rel) s = onBranch 0x70#8 (fun q => q.v) rel s := rfl
@[simp] theorem exec_rti (s : State) : exec .rti s = onImplied 0x40#8 State.returnFromException s := rfl
@[simp] theorem exec_pha (s : State) : exec .pha s = onImplied 0x48#8 (fun t => t.push t.a) s := rfl
@[simp] theorem exec_php (s : State) : exec .php s = onImplied 0x08#8 (fun t => t.push (t.p.toByteWith true)) s := rfl
@[simp] theorem exec_pla (s : State) : exec .pla s = onImplied 0x68#8 (fun t => t.pull.2.accOp .pass t.pull.1) s := rfl
@[simp] theorem exec_plp (s : State) : exec .plp s = onImplied 0x28#8 State.pullFlags s := rfl
@[simp] theorem exec_clc (s : State) : exec .clc s = onImplied 0x18#8 (fun t => t.setP { t.p with c := false }) s := rfl
@[simp] theorem exec_cld (s : State) : exec .cld s = onImplied 0xD8#8 (fun t => t.setP { t.p with d := false }) s := rfl
@[simp] theorem exec_cli (s : State) : exec .cli s = onImplied 0x58#8 (fun t => t.setP { t.p with i := false }) s := rfl
@[simp] theorem exec_clv (s : State) : exec .clv s = onImplied 0xB8#8 (fun t => t.setP { t.p with v := false }) s := rfl
@[simp] theorem exec_sec (s : State) : exec .sec s = onImplied 0x38#8 (fun t => t.setP { t.p with c := true }) s := rfl
@[simp] theorem exec_sed (s : State) : exec .sed s = onImplied 0xF8#8 (fun t => t.setP { t.p with d := true }) s := rfl
@[simp] theorem exec_sei (s : State) : exec .sei s = onImplied 0x78#8 (fun t => t.setP { t.p with i := true }) s := rfl
@[simp] theorem exec_nop (s : State) : exec .nop s = onImplied 0xEA#8 (fun t => t) s := rfl

end Sys2Proof.Machine
end

