-- ==== Sys2Proof/Laws/PerInstr.lean ====
section
/-! SUPPORT. One lemma per constructor of Instr: its encoding begins with the opcode of its own row and has its mode's length. -/

namespace Sys2Proof.Laws.EncodedShape

/-- The encoding is the opcode byte of the row and then as many operand bytes as the mode has, and the row's descriptor carries the
instruction's mnemonic and mode (spec 30 R60, R63, R66). -/
def Statement (i : Instr) : Prop :=
  (encode i).length = 1 + i.mode.operandBytes ∧
  (descriptorOf ((encode i).headD 0#8)).map (fun d => (d.mnemonic, d.mode)) = some i.shape

theorem ldaImm (v : Byte) : Statement (.ldaImm v) :=
  ⟨rfl, show (descriptorOf 0xA9#8).map (fun d => (d.mnemonic, d.mode)) = some (.lda, .imm) from rfl⟩
theorem ldaZp (v : Byte) : Statement (.ldaZp v) :=
  ⟨rfl, show (descriptorOf 0xA5#8).map (fun d => (d.mnemonic, d.mode)) = some (.lda, .zp) from rfl⟩
theorem ldaZpX (v : Byte) : Statement (.ldaZpX v) :=
  ⟨rfl, show (descriptorOf 0xB5#8).map (fun d => (d.mnemonic, d.mode)) = some (.lda, .zpX) from rfl⟩
theorem ldaAbs (v : Addr) : Statement (.ldaAbs v) :=
  ⟨rfl, show (descriptorOf 0xAD#8).map (fun d => (d.mnemonic, d.mode)) = some (.lda, .abs) from rfl⟩
theorem ldaAbsX (v : Addr) : Statement (.ldaAbsX v) :=
  ⟨rfl, show (descriptorOf 0xBD#8).map (fun d => (d.mnemonic, d.mode)) = some (.lda, .absX) from rfl⟩
theorem ldaAbsY (v : Addr) : Statement (.ldaAbsY v) :=
  ⟨rfl, show (descriptorOf 0xB9#8).map (fun d => (d.mnemonic, d.mode)) = some (.lda, .absY) from rfl⟩
theorem ldaIndX (v : Byte) : Statement (.ldaIndX v) :=
  ⟨rfl, show (descriptorOf 0xA1#8).map (fun d => (d.mnemonic, d.mode)) = some (.lda, .indX) from rfl⟩
theorem ldaIndY (v : Byte) : Statement (.ldaIndY v) :=
  ⟨rfl, show (descriptorOf 0xB1#8).map (fun d => (d.mnemonic, d.mode)) = some (.lda, .indY) from rfl⟩
theorem ldxImm (v : Byte) : Statement (.ldxImm v) :=
  ⟨rfl, show (descriptorOf 0xA2#8).map (fun d => (d.mnemonic, d.mode)) = some (.ldx, .imm) from rfl⟩
theorem ldxZp (v : Byte) : Statement (.ldxZp v) :=
  ⟨rfl, show (descriptorOf 0xA6#8).map (fun d => (d.mnemonic, d.mode)) = some (.ldx, .zp) from rfl⟩
theorem ldxZpY (v : Byte) : Statement (.ldxZpY v) :=
  ⟨rfl, show (descriptorOf 0xB6#8).map (fun d => (d.mnemonic, d.mode)) = some (.ldx, .zpY) from rfl⟩
theorem ldxAbs (v : Addr) : Statement (.ldxAbs v) :=
  ⟨rfl, show (descriptorOf 0xAE#8).map (fun d => (d.mnemonic, d.mode)) = some (.ldx, .abs) from rfl⟩
theorem ldxAbsY (v : Addr) : Statement (.ldxAbsY v) :=
  ⟨rfl, show (descriptorOf 0xBE#8).map (fun d => (d.mnemonic, d.mode)) = some (.ldx, .absY) from rfl⟩
theorem ldyImm (v : Byte) : Statement (.ldyImm v) :=
  ⟨rfl, show (descriptorOf 0xA0#8).map (fun d => (d.mnemonic, d.mode)) = some (.ldy, .imm) from rfl⟩
theorem ldyZp (v : Byte) : Statement (.ldyZp v) :=
  ⟨rfl, show (descriptorOf 0xA4#8).map (fun d => (d.mnemonic, d.mode)) = some (.ldy, .zp) from rfl⟩
theorem ldyZpX (v : Byte) : Statement (.ldyZpX v) :=
  ⟨rfl, show (descriptorOf 0xB4#8).map (fun d => (d.mnemonic, d.mode)) = some (.ldy, .zpX) from rfl⟩
theorem ldyAbs (v : Addr) : Statement (.ldyAbs v) :=
  ⟨rfl, show (descriptorOf 0xAC#8).map (fun d => (d.mnemonic, d.mode)) = some (.ldy, .abs) from rfl⟩
theorem ldyAbsX (v : Addr) : Statement (.ldyAbsX v) :=
  ⟨rfl, show (descriptorOf 0xBC#8).map (fun d => (d.mnemonic, d.mode)) = some (.ldy, .absX) from rfl⟩
theorem staZp (v : Byte) : Statement (.staZp v) :=
  ⟨rfl, show (descriptorOf 0x85#8).map (fun d => (d.mnemonic, d.mode)) = some (.sta, .zp) from rfl⟩
theorem staZpX (v : Byte) : Statement (.staZpX v) :=
  ⟨rfl, show (descriptorOf 0x95#8).map (fun d => (d.mnemonic, d.mode)) = some (.sta, .zpX) from rfl⟩
theorem staAbs (v : Addr) : Statement (.staAbs v) :=
  ⟨rfl, show (descriptorOf 0x8D#8).map (fun d => (d.mnemonic, d.mode)) = some (.sta, .abs) from rfl⟩
theorem staAbsX (v : Addr) : Statement (.staAbsX v) :=
  ⟨rfl, show (descriptorOf 0x9D#8).map (fun d => (d.mnemonic, d.mode)) = some (.sta, .absX) from rfl⟩
theorem staAbsY (v : Addr) : Statement (.staAbsY v) :=
  ⟨rfl, show (descriptorOf 0x99#8).map (fun d => (d.mnemonic, d.mode)) = some (.sta, .absY) from rfl⟩
theorem staIndX (v : Byte) : Statement (.staIndX v) :=
  ⟨rfl, show (descriptorOf 0x81#8).map (fun d => (d.mnemonic, d.mode)) = some (.sta, .indX) from rfl⟩
theorem staIndY (v : Byte) : Statement (.staIndY v) :=
  ⟨rfl, show (descriptorOf 0x91#8).map (fun d => (d.mnemonic, d.mode)) = some (.sta, .indY) from rfl⟩
theorem stxZp (v : Byte) : Statement (.stxZp v) :=
  ⟨rfl, show (descriptorOf 0x86#8).map (fun d => (d.mnemonic, d.mode)) = some (.stx, .zp) from rfl⟩
theorem stxZpY (v : Byte) : Statement (.stxZpY v) :=
  ⟨rfl, show (descriptorOf 0x96#8).map (fun d => (d.mnemonic, d.mode)) = some (.stx, .zpY) from rfl⟩
theorem stxAbs (v : Addr) : Statement (.stxAbs v) :=
  ⟨rfl, show (descriptorOf 0x8E#8).map (fun d => (d.mnemonic, d.mode)) = some (.stx, .abs) from rfl⟩
theorem styZp (v : Byte) : Statement (.styZp v) :=
  ⟨rfl, show (descriptorOf 0x84#8).map (fun d => (d.mnemonic, d.mode)) = some (.sty, .zp) from rfl⟩
theorem styZpX (v : Byte) : Statement (.styZpX v) :=
  ⟨rfl, show (descriptorOf 0x94#8).map (fun d => (d.mnemonic, d.mode)) = some (.sty, .zpX) from rfl⟩
theorem styAbs (v : Addr) : Statement (.styAbs v) :=
  ⟨rfl, show (descriptorOf 0x8C#8).map (fun d => (d.mnemonic, d.mode)) = some (.sty, .abs) from rfl⟩
theorem tax : Statement (.tax) :=
  ⟨rfl, show (descriptorOf 0xAA#8).map (fun d => (d.mnemonic, d.mode)) = some (.tax, .imp) from rfl⟩
theorem tay : Statement (.tay) :=
  ⟨rfl, show (descriptorOf 0xA8#8).map (fun d => (d.mnemonic, d.mode)) = some (.tay, .imp) from rfl⟩
theorem txa : Statement (.txa) :=
  ⟨rfl, show (descriptorOf 0x8A#8).map (fun d => (d.mnemonic, d.mode)) = some (.txa, .imp) from rfl⟩
theorem tya : Statement (.tya) :=
  ⟨rfl, show (descriptorOf 0x98#8).map (fun d => (d.mnemonic, d.mode)) = some (.tya, .imp) from rfl⟩
theorem tsx : Statement (.tsx) :=
  ⟨rfl, show (descriptorOf 0xBA#8).map (fun d => (d.mnemonic, d.mode)) = some (.tsx, .imp) from rfl⟩
theorem txs : Statement (.txs) :=
  ⟨rfl, show (descriptorOf 0x9A#8).map (fun d => (d.mnemonic, d.mode)) = some (.txs, .imp) from rfl⟩
theorem adcImm (v : Byte) : Statement (.adcImm v) :=
  ⟨rfl, show (descriptorOf 0x69#8).map (fun d => (d.mnemonic, d.mode)) = some (.adc, .imm) from rfl⟩
theorem adcZp (v : Byte) : Statement (.adcZp v) :=
  ⟨rfl, show (descriptorOf 0x65#8).map (fun d => (d.mnemonic, d.mode)) = some (.adc, .zp) from rfl⟩
theorem adcZpX (v : Byte) : Statement (.adcZpX v) :=
  ⟨rfl, show (descriptorOf 0x75#8).map (fun d => (d.mnemonic, d.mode)) = some (.adc, .zpX) from rfl⟩
theorem adcAbs (v : Addr) : Statement (.adcAbs v) :=
  ⟨rfl, show (descriptorOf 0x6D#8).map (fun d => (d.mnemonic, d.mode)) = some (.adc, .abs) from rfl⟩
theorem adcAbsX (v : Addr) : Statement (.adcAbsX v) :=
  ⟨rfl, show (descriptorOf 0x7D#8).map (fun d => (d.mnemonic, d.mode)) = some (.adc, .absX) from rfl⟩
theorem adcAbsY (v : Addr) : Statement (.adcAbsY v) :=
  ⟨rfl, show (descriptorOf 0x79#8).map (fun d => (d.mnemonic, d.mode)) = some (.adc, .absY) from rfl⟩
theorem adcIndX (v : Byte) : Statement (.adcIndX v) :=
  ⟨rfl, show (descriptorOf 0x61#8).map (fun d => (d.mnemonic, d.mode)) = some (.adc, .indX) from rfl⟩
theorem adcIndY (v : Byte) : Statement (.adcIndY v) :=
  ⟨rfl, show (descriptorOf 0x71#8).map (fun d => (d.mnemonic, d.mode)) = some (.adc, .indY) from rfl⟩
theorem sbcImm (v : Byte) : Statement (.sbcImm v) :=
  ⟨rfl, show (descriptorOf 0xE9#8).map (fun d => (d.mnemonic, d.mode)) = some (.sbc, .imm) from rfl⟩
theorem sbcZp (v : Byte) : Statement (.sbcZp v) :=
  ⟨rfl, show (descriptorOf 0xE5#8).map (fun d => (d.mnemonic, d.mode)) = some (.sbc, .zp) from rfl⟩
theorem sbcZpX (v : Byte) : Statement (.sbcZpX v) :=
  ⟨rfl, show (descriptorOf 0xF5#8).map (fun d => (d.mnemonic, d.mode)) = some (.sbc, .zpX) from rfl⟩
theorem sbcAbs (v : Addr) : Statement (.sbcAbs v) :=
  ⟨rfl, show (descriptorOf 0xED#8).map (fun d => (d.mnemonic, d.mode)) = some (.sbc, .abs) from rfl⟩
theorem sbcAbsX (v : Addr) : Statement (.sbcAbsX v) :=
  ⟨rfl, show (descriptorOf 0xFD#8).map (fun d => (d.mnemonic, d.mode)) = some (.sbc, .absX) from rfl⟩
theorem sbcAbsY (v : Addr) : Statement (.sbcAbsY v) :=
  ⟨rfl, show (descriptorOf 0xF9#8).map (fun d => (d.mnemonic, d.mode)) = some (.sbc, .absY) from rfl⟩
theorem sbcIndX (v : Byte) : Statement (.sbcIndX v) :=
  ⟨rfl, show (descriptorOf 0xE1#8).map (fun d => (d.mnemonic, d.mode)) = some (.sbc, .indX) from rfl⟩
theorem sbcIndY (v : Byte) : Statement (.sbcIndY v) :=
  ⟨rfl, show (descriptorOf 0xF1#8).map (fun d => (d.mnemonic, d.mode)) = some (.sbc, .indY) from rfl⟩
theorem andImm (v : Byte) : Statement (.andImm v) :=
  ⟨rfl, show (descriptorOf 0x29#8).map (fun d => (d.mnemonic, d.mode)) = some (.and, .imm) from rfl⟩
theorem andZp (v : Byte) : Statement (.andZp v) :=
  ⟨rfl, show (descriptorOf 0x25#8).map (fun d => (d.mnemonic, d.mode)) = some (.and, .zp) from rfl⟩
theorem andZpX (v : Byte) : Statement (.andZpX v) :=
  ⟨rfl, show (descriptorOf 0x35#8).map (fun d => (d.mnemonic, d.mode)) = some (.and, .zpX) from rfl⟩
theorem andAbs (v : Addr) : Statement (.andAbs v) :=
  ⟨rfl, show (descriptorOf 0x2D#8).map (fun d => (d.mnemonic, d.mode)) = some (.and, .abs) from rfl⟩
theorem andAbsX (v : Addr) : Statement (.andAbsX v) :=
  ⟨rfl, show (descriptorOf 0x3D#8).map (fun d => (d.mnemonic, d.mode)) = some (.and, .absX) from rfl⟩
theorem andAbsY (v : Addr) : Statement (.andAbsY v) :=
  ⟨rfl, show (descriptorOf 0x39#8).map (fun d => (d.mnemonic, d.mode)) = some (.and, .absY) from rfl⟩
theorem andIndX (v : Byte) : Statement (.andIndX v) :=
  ⟨rfl, show (descriptorOf 0x21#8).map (fun d => (d.mnemonic, d.mode)) = some (.and, .indX) from rfl⟩
theorem andIndY (v : Byte) : Statement (.andIndY v) :=
  ⟨rfl, show (descriptorOf 0x31#8).map (fun d => (d.mnemonic, d.mode)) = some (.and, .indY) from rfl⟩
theorem oraImm (v : Byte) : Statement (.oraImm v) :=
  ⟨rfl, show (descriptorOf 0x09#8).map (fun d => (d.mnemonic, d.mode)) = some (.ora, .imm) from rfl⟩
theorem oraZp (v : Byte) : Statement (.oraZp v) :=
  ⟨rfl, show (descriptorOf 0x05#8).map (fun d => (d.mnemonic, d.mode)) = some (.ora, .zp) from rfl⟩
theorem oraZpX (v : Byte) : Statement (.oraZpX v) :=
  ⟨rfl, show (descriptorOf 0x15#8).map (fun d => (d.mnemonic, d.mode)) = some (.ora, .zpX) from rfl⟩
theorem oraAbs (v : Addr) : Statement (.oraAbs v) :=
  ⟨rfl, show (descriptorOf 0x0D#8).map (fun d => (d.mnemonic, d.mode)) = some (.ora, .abs) from rfl⟩
theorem oraAbsX (v : Addr) : Statement (.oraAbsX v) :=
  ⟨rfl, show (descriptorOf 0x1D#8).map (fun d => (d.mnemonic, d.mode)) = some (.ora, .absX) from rfl⟩
theorem oraAbsY (v : Addr) : Statement (.oraAbsY v) :=
  ⟨rfl, show (descriptorOf 0x19#8).map (fun d => (d.mnemonic, d.mode)) = some (.ora, .absY) from rfl⟩
theorem oraIndX (v : Byte) : Statement (.oraIndX v) :=
  ⟨rfl, show (descriptorOf 0x01#8).map (fun d => (d.mnemonic, d.mode)) = some (.ora, .indX) from rfl⟩
theorem oraIndY (v : Byte) : Statement (.oraIndY v) :=
  ⟨rfl, show (descriptorOf 0x11#8).map (fun d => (d.mnemonic, d.mode)) = some (.ora, .indY) from rfl⟩
theorem eorImm (v : Byte) : Statement (.eorImm v) :=
  ⟨rfl, show (descriptorOf 0x49#8).map (fun d => (d.mnemonic, d.mode)) = some (.eor, .imm) from rfl⟩
theorem eorZp (v : Byte) : Statement (.eorZp v) :=
  ⟨rfl, show (descriptorOf 0x45#8).map (fun d => (d.mnemonic, d.mode)) = some (.eor, .zp) from rfl⟩
theorem eorZpX (v : Byte) : Statement (.eorZpX v) :=
  ⟨rfl, show (descriptorOf 0x55#8).map (fun d => (d.mnemonic, d.mode)) = some (.eor, .zpX) from rfl⟩
theorem eorAbs (v : Addr) : Statement (.eorAbs v) :=
  ⟨rfl, show (descriptorOf 0x4D#8).map (fun d => (d.mnemonic, d.mode)) = some (.eor, .abs) from rfl⟩
theorem eorAbsX (v : Addr) : Statement (.eorAbsX v) :=
  ⟨rfl, show (descriptorOf 0x5D#8).map (fun d => (d.mnemonic, d.mode)) = some (.eor, .absX) from rfl⟩
theorem eorAbsY (v : Addr) : Statement (.eorAbsY v) :=
  ⟨rfl, show (descriptorOf 0x59#8).map (fun d => (d.mnemonic, d.mode)) = some (.eor, .absY) from rfl⟩
theorem eorIndX (v : Byte) : Statement (.eorIndX v) :=
  ⟨rfl, show (descriptorOf 0x41#8).map (fun d => (d.mnemonic, d.mode)) = some (.eor, .indX) from rfl⟩
theorem eorIndY (v : Byte) : Statement (.eorIndY v) :=
  ⟨rfl, show (descriptorOf 0x51#8).map (fun d => (d.mnemonic, d.mode)) = some (.eor, .indY) from rfl⟩
theorem bitZp (v : Byte) : Statement (.bitZp v) :=
  ⟨rfl, show (descriptorOf 0x24#8).map (fun d => (d.mnemonic, d.mode)) = some (.bit, .zp) from rfl⟩
theorem bitAbs (v : Addr) : Statement (.bitAbs v) :=
  ⟨rfl, show (descriptorOf 0x2C#8).map (fun d => (d.mnemonic, d.mode)) = some (.bit, .abs) from rfl⟩
theorem cmpImm (v : Byte) : Statement (.cmpImm v) :=
  ⟨rfl, show (descriptorOf 0xC9#8).map (fun d => (d.mnemonic, d.mode)) = some (.cmp, .imm) from rfl⟩
theorem cmpZp (v : Byte) : Statement (.cmpZp v) :=
  ⟨rfl, show (descriptorOf 0xC5#8).map (fun d => (d.mnemonic, d.mode)) = some (.cmp, .zp) from rfl⟩
theorem cmpZpX (v : Byte) : Statement (.cmpZpX v) :=
  ⟨rfl, show (descriptorOf 0xD5#8).map (fun d => (d.mnemonic, d.mode)) = some (.cmp, .zpX) from rfl⟩
theorem cmpAbs (v : Addr) : Statement (.cmpAbs v) :=
  ⟨rfl, show (descriptorOf 0xCD#8).map (fun d => (d.mnemonic, d.mode)) = some (.cmp, .abs) from rfl⟩
theorem cmpAbsX (v : Addr) : Statement (.cmpAbsX v) :=
  ⟨rfl, show (descriptorOf 0xDD#8).map (fun d => (d.mnemonic, d.mode)) = some (.cmp, .absX) from rfl⟩
theorem cmpAbsY (v : Addr) : Statement (.cmpAbsY v) :=
  ⟨rfl, show (descriptorOf 0xD9#8).map (fun d => (d.mnemonic, d.mode)) = some (.cmp, .absY) from rfl⟩
theorem cmpIndX (v : Byte) : Statement (.cmpIndX v) :=
  ⟨rfl, show (descriptorOf 0xC1#8).map (fun d => (d.mnemonic, d.mode)) = some (.cmp, .indX) from rfl⟩
theorem cmpIndY (v : Byte) : Statement (.cmpIndY v) :=
  ⟨rfl, show (descriptorOf 0xD1#8).map (fun d => (d.mnemonic, d.mode)) = some (.cmp, .indY) from rfl⟩
theorem cpxImm (v : Byte) : Statement (.cpxImm v) :=
  ⟨rfl, show (descriptorOf 0xE0#8).map (fun d => (d.mnemonic, d.mode)) = some (.cpx, .imm) from rfl⟩
theorem cpxZp (v : Byte) : Statement (.cpxZp v) :=
  ⟨rfl, show (descriptorOf 0xE4#8).map (fun d => (d.mnemonic, d.mode)) = some (.cpx, .zp) from rfl⟩
theorem cpxAbs (v : Addr) : Statement (.cpxAbs v) :=
  ⟨rfl, show (descriptorOf 0xEC#8).map (fun d => (d.mnemonic, d.mode)) = some (.cpx, .abs) from rfl⟩
theorem cpyImm (v : Byte) : Statement (.cpyImm v) :=
  ⟨rfl, show (descriptorOf 0xC0#8).map (fun d => (d.mnemonic, d.mode)) = some (.cpy, .imm) from rfl⟩
theorem cpyZp (v : Byte) : Statement (.cpyZp v) :=
  ⟨rfl, show (descriptorOf 0xC4#8).map (fun d => (d.mnemonic, d.mode)) = some (.cpy, .zp) from rfl⟩
theorem cpyAbs (v : Addr) : Statement (.cpyAbs v) :=
  ⟨rfl, show (descriptorOf 0xCC#8).map (fun d => (d.mnemonic, d.mode)) = some (.cpy, .abs) from rfl⟩
theorem incZp (v : Byte) : Statement (.incZp v) :=
  ⟨rfl, show (descriptorOf 0xE6#8).map (fun d => (d.mnemonic, d.mode)) = some (.inc, .zp) from rfl⟩
theorem incZpX (v : Byte) : Statement (.incZpX v) :=
  ⟨rfl, show (descriptorOf 0xF6#8).map (fun d => (d.mnemonic, d.mode)) = some (.inc, .zpX) from rfl⟩
theorem incAbs (v : Addr) : Statement (.incAbs v) :=
  ⟨rfl, show (descriptorOf 0xEE#8).map (fun d => (d.mnemonic, d.mode)) = some (.inc, .abs) from rfl⟩
theorem incAbsX (v : Addr) : Statement (.incAbsX v) :=
  ⟨rfl, show (descriptorOf 0xFE#8).map (fun d => (d.mnemonic, d.mode)) = some (.inc, .absX) from rfl⟩
theorem decZp (v : Byte) : Statement (.decZp v) :=
  ⟨rfl, show (descriptorOf 0xC6#8).map (fun d => (d.mnemonic, d.mode)) = some (.dec, .zp) from rfl⟩
theorem decZpX (v : Byte) : Statement (.decZpX v) :=
  ⟨rfl, show (descriptorOf 0xD6#8).map (fun d => (d.mnemonic, d.mode)) = some (.dec, .zpX) from rfl⟩
theorem decAbs (v : Addr) : Statement (.decAbs v) :=
  ⟨rfl, show (descriptorOf 0xCE#8).map (fun d => (d.mnemonic, d.mode)) = some (.dec, .abs) from rfl⟩
theorem decAbsX (v : Addr) : Statement (.decAbsX v) :=
  ⟨rfl, show (descriptorOf 0xDE#8).map (fun d => (d.mnemonic, d.mode)) = some (.dec, .absX) from rfl⟩
theorem inx : Statement (.inx) :=
  ⟨rfl, show (descriptorOf 0xE8#8).map (fun d => (d.mnemonic, d.mode)) = some (.inx, .imp) from rfl⟩
theorem iny : Statement (.iny) :=
  ⟨rfl, show (descriptorOf 0xC8#8).map (fun d => (d.mnemonic, d.mode)) = some (.iny, .imp) from rfl⟩
theorem dex : Statement (.dex) :=
  ⟨rfl, show (descriptorOf 0xCA#8).map (fun d => (d.mnemonic, d.mode)) = some (.dex, .imp) from rfl⟩
theorem dey : Statement (.dey) :=
  ⟨rfl, show (descriptorOf 0x88#8).map (fun d => (d.mnemonic, d.mode)) = some (.dey, .imp) from rfl⟩
theorem aslZp (v : Byte) : Statement (.aslZp v) :=
  ⟨rfl, show (descriptorOf 0x06#8).map (fun d => (d.mnemonic, d.mode)) = some (.asl, .zp) from rfl⟩
theorem aslZpX (v : Byte) : Statement (.aslZpX v) :=
  ⟨rfl, show (descriptorOf 0x16#8).map (fun d => (d.mnemonic, d.mode)) = some (.asl, .zpX) from rfl⟩
theorem aslAbs (v : Addr) : Statement (.aslAbs v) :=
  ⟨rfl, show (descriptorOf 0x0E#8).map (fun d => (d.mnemonic, d.mode)) = some (.asl, .abs) from rfl⟩
theorem aslAbsX (v : Addr) : Statement (.aslAbsX v) :=
  ⟨rfl, show (descriptorOf 0x1E#8).map (fun d => (d.mnemonic, d.mode)) = some (.asl, .absX) from rfl⟩
theorem aslAcc : Statement (.aslAcc) :=
  ⟨rfl, show (descriptorOf 0x0A#8).map (fun d => (d.mnemonic, d.mode)) = some (.asl, .acc) from rfl⟩
theorem lsrZp (v : Byte) : Statement (.lsrZp v) :=
  ⟨rfl, show (descriptorOf 0x46#8).map (fun d => (d.mnemonic, d.mode)) = some (.lsr, .zp) from rfl⟩
theorem lsrZpX (v : Byte) : Statement (.lsrZpX v) :=
  ⟨rfl, show (descriptorOf 0x56#8).map (fun d => (d.mnemonic, d.mode)) = some (.lsr, .zpX) from rfl⟩
theorem lsrAbs (v : Addr) : Statement (.lsrAbs v) :=
  ⟨rfl, show (descriptorOf 0x4E#8).map (fun d => (d.mnemonic, d.mode)) = some (.lsr, .abs) from rfl⟩
theorem lsrAbsX (v : Addr) : Statement (.lsrAbsX v) :=
  ⟨rfl, show (descriptorOf 0x5E#8).map (fun d => (d.mnemonic, d.mode)) = some (.lsr, .absX) from rfl⟩
theorem lsrAcc : Statement (.lsrAcc) :=
  ⟨rfl, show (descriptorOf 0x4A#8).map (fun d => (d.mnemonic, d.mode)) = some (.lsr, .acc) from rfl⟩
theorem rolZp (v : Byte) : Statement (.rolZp v) :=
  ⟨rfl, show (descriptorOf 0x26#8).map (fun d => (d.mnemonic, d.mode)) = some (.rol, .zp) from rfl⟩
theorem rolZpX (v : Byte) : Statement (.rolZpX v) :=
  ⟨rfl, show (descriptorOf 0x36#8).map (fun d => (d.mnemonic, d.mode)) = some (.rol, .zpX) from rfl⟩
theorem rolAbs (v : Addr) : Statement (.rolAbs v) :=
  ⟨rfl, show (descriptorOf 0x2E#8).map (fun d => (d.mnemonic, d.mode)) = some (.rol, .abs) from rfl⟩
theorem rolAbsX (v : Addr) : Statement (.rolAbsX v) :=
  ⟨rfl, show (descriptorOf 0x3E#8).map (fun d => (d.mnemonic, d.mode)) = some (.rol, .absX) from rfl⟩
theorem rolAcc : Statement (.rolAcc) :=
  ⟨rfl, show (descriptorOf 0x2A#8).map (fun d => (d.mnemonic, d.mode)) = some (.rol, .acc) from rfl⟩
theorem rorZp (v : Byte) : Statement (.rorZp v) :=
  ⟨rfl, show (descriptorOf 0x66#8).map (fun d => (d.mnemonic, d.mode)) = some (.ror, .zp) from rfl⟩
theorem rorZpX (v : Byte) : Statement (.rorZpX v) :=
  ⟨rfl, show (descriptorOf 0x76#8).map (fun d => (d.mnemonic, d.mode)) = some (.ror, .zpX) from rfl⟩
theorem rorAbs (v : Addr) : Statement (.rorAbs v) :=
  ⟨rfl, show (descriptorOf 0x6E#8).map (fun d => (d.mnemonic, d.mode)) = some (.ror, .abs) from rfl⟩
theorem rorAbsX (v : Addr) : Statement (.rorAbsX v) :=
  ⟨rfl, show (descriptorOf 0x7E#8).map (fun d => (d.mnemonic, d.mode)) = some (.ror, .absX) from rfl⟩
theorem rorAcc : Statement (.rorAcc) :=
  ⟨rfl, show (descriptorOf 0x6A#8).map (fun d => (d.mnemonic, d.mode)) = some (.ror, .acc) from rfl⟩
theorem bcc (v : Byte) : Statement (.bcc v) :=
  ⟨rfl, show (descriptorOf 0x90#8).map (fun d => (d.mnemonic, d.mode)) = some (.bcc, .rel) from rfl⟩
theorem bcs (v : Byte) : Statement (.bcs v) :=
  ⟨rfl, show (descriptorOf 0xB0#8).map (fun d => (d.mnemonic, d.mode)) = some (.bcs, .rel) from rfl⟩
theorem beq (v : Byte) : Statement (.beq v) :=
  ⟨rfl, show (descriptorOf 0xF0#8).map (fun d => (d.mnemonic, d.mode)) = some (.beq, .rel) from rfl⟩
theorem bmi (v : Byte) : Statement (.bmi v) :=
  ⟨rfl, show (descriptorOf 0x30#8).map (fun d => (d.mnemonic, d.mode)) = some (.bmi, .rel) from rfl⟩
theorem bne (v : Byte) : Statement (.bne v) :=
  ⟨rfl, show (descriptorOf 0xD0#8).map (fun d => (d.mnemonic, d.mode)) = some (.bne, .rel) from rfl⟩
theorem bpl (v : Byte) : Statement (.bpl v) :=
  ⟨rfl, show (descriptorOf 0x10#8).map (fun d => (d.mnemonic, d.mode)) = some (.bpl, .rel) from rfl⟩
theorem bvc (v : Byte) : Statement (.bvc v) :=
  ⟨rfl, show (descriptorOf 0x50#8).map (fun d => (d.mnemonic, d.mode)) = some (.bvc, .rel) from rfl⟩
theorem bvs (v : Byte) : Statement (.bvs v) :=
  ⟨rfl, show (descriptorOf 0x70#8).map (fun d => (d.mnemonic, d.mode)) = some (.bvs, .rel) from rfl⟩
theorem jmpAbs (v : Addr) : Statement (.jmpAbs v) :=
  ⟨rfl, show (descriptorOf 0x4C#8).map (fun d => (d.mnemonic, d.mode)) = some (.jmp, .abs) from rfl⟩
theorem jmpInd (v : Addr) : Statement (.jmpInd v) :=
  ⟨rfl, show (descriptorOf 0x6C#8).map (fun d => (d.mnemonic, d.mode)) = some (.jmp, .ind) from rfl⟩
theorem jsr (v : Addr) : Statement (.jsr v) :=
  ⟨rfl, show (descriptorOf 0x20#8).map (fun d => (d.mnemonic, d.mode)) = some (.jsr, .abs) from rfl⟩
theorem rts : Statement (.rts) :=
  ⟨rfl, show (descriptorOf 0x60#8).map (fun d => (d.mnemonic, d.mode)) = some (.rts, .stack) from rfl⟩
theorem rti : Statement (.rti) :=
  ⟨rfl, show (descriptorOf 0x40#8).map (fun d => (d.mnemonic, d.mode)) = some (.rti, .stack) from rfl⟩
theorem brk : Statement (.brk) :=
  ⟨rfl, show (descriptorOf 0x00#8).map (fun d => (d.mnemonic, d.mode)) = some (.brk, .stack) from rfl⟩
theorem pha : Statement (.pha) :=
  ⟨rfl, show (descriptorOf 0x48#8).map (fun d => (d.mnemonic, d.mode)) = some (.pha, .stack) from rfl⟩
theorem php : Statement (.php) :=
  ⟨rfl, show (descriptorOf 0x08#8).map (fun d => (d.mnemonic, d.mode)) = some (.php, .stack) from rfl⟩
theorem pla : Statement (.pla) :=
  ⟨rfl, show (descriptorOf 0x68#8).map (fun d => (d.mnemonic, d.mode)) = some (.pla, .stack) from rfl⟩
theorem plp : Statement (.plp) :=
  ⟨rfl, show (descriptorOf 0x28#8).map (fun d => (d.mnemonic, d.mode)) = some (.plp, .stack) from rfl⟩
theorem clc : Statement (.clc) :=
  ⟨rfl, show (descriptorOf 0x18#8).map (fun d => (d.mnemonic, d.mode)) = some (.clc, .imp) from rfl⟩
theorem cld : Statement (.cld) :=
  ⟨rfl, show (descriptorOf 0xD8#8).map (fun d => (d.mnemonic, d.mode)) = some (.cld, .imp) from rfl⟩
theorem cli : Statement (.cli) :=
  ⟨rfl, show (descriptorOf 0x58#8).map (fun d => (d.mnemonic, d.mode)) = some (.cli, .imp) from rfl⟩
theorem clv : Statement (.clv) :=
  ⟨rfl, show (descriptorOf 0xB8#8).map (fun d => (d.mnemonic, d.mode)) = some (.clv, .imp) from rfl⟩
theorem sec : Statement (.sec) :=
  ⟨rfl, show (descriptorOf 0x38#8).map (fun d => (d.mnemonic, d.mode)) = some (.sec, .imp) from rfl⟩
theorem sed : Statement (.sed) :=
  ⟨rfl, show (descriptorOf 0xF8#8).map (fun d => (d.mnemonic, d.mode)) = some (.sed, .imp) from rfl⟩
theorem sei : Statement (.sei) :=
  ⟨rfl, show (descriptorOf 0x78#8).map (fun d => (d.mnemonic, d.mode)) = some (.sei, .imp) from rfl⟩
theorem nop : Statement (.nop) :=
  ⟨rfl, show (descriptorOf 0xEA#8).map (fun d => (d.mnemonic, d.mode)) = some (.nop, .imp) from rfl⟩

end Sys2Proof.Laws.EncodedShape
end

