-- ==== Sys2Proof/Tests/Slice0.lean ====
section
/-! SUPPORT. The model's own tests: ill-formed terms that WellFormed refuses, words written out from the spec's encodings, the single-step vectors of spec 95, and a witness for the hypotheses of every obligation. -/

namespace Sys2Proof.Tests

open Sys2Proof Sys2Proof.Machine

/-! ## WellFormed: one ill-formed term for each check -/

/-- "STA has no IMM" (41 R116): the mode check. -/
theorem test_wf_refuses_sta_immediate : (Written.mk .sta .imm 0x41).wf = false := by decide
/-- LDX has ABSY and no ABSX (30 R66). -/
theorem test_wf_refuses_ldx_absX : (Written.mk .ldx .absX 0x1234).wf = false := by decide
/-- A zero-page operand is one byte (30 R61): the operand check. -/
theorem test_wf_refuses_two_byte_zero_page : (Written.mk .lda .zp 0x100).wf = false := by decide
theorem test_wf_refuses_implied_operand : (Written.mk .inx .imp 1).wf = false := by decide
theorem test_wf_refuses_three_byte_address : (Written.mk .jmp .abs 0x10000).wf = false := by decide
theorem test_wf_accepts_the_largest_operands :
    (Written.mk .lda .zp 0xFF).wf = true ∧ (Written.mk .jmp .ind 0xFFFF).wf = true := by decide
/-- "which must lie in -128..+127" (30 R69): the reach of a branch, at its two ends. -/
theorem test_branch_operand_reach :
    branchOperand 0x0200 0x0281 = some 0x7F ∧ branchOperand 0x0200 0x0282 = none ∧
    branchOperand 0x0200 0x0182 = some 0x80 ∧ branchOperand 0x0200 0x0181 = none := by decide

/-! ## Decoding: every constructor, its opcode byte written bit by bit from the encoding of the opcode table (30 R66), the
operand bytes 0x34 and 0x12; with it the encoder on the same instruction -/

/-- The bytes decode to the instruction, with nothing left over, and are its encoding. -/
def reads (bytes : List Byte) (i : Instr) : Bool :=
  decide (decode bytes = .ok (i, [])) && decide (encode i = bytes)

theorem test_decode_lda :
    (reads [0b10101001, 0x34] (.ldaImm 0x34) &&
      reads [0b10100101, 0x34] (.ldaZp 0x34) &&
      reads [0b10110101, 0x34] (.ldaZpX 0x34) &&
      reads [0b10101101, 0x34, 0x12] (.ldaAbs 0x1234) &&
      reads [0b10111101, 0x34, 0x12] (.ldaAbsX 0x1234) &&
      reads [0b10111001, 0x34, 0x12] (.ldaAbsY 0x1234) &&
      reads [0b10100001, 0x34] (.ldaIndX 0x34) &&
      reads [0b10110001, 0x34] (.ldaIndY 0x34)) = true := by decide
theorem test_decode_ldx :
    (reads [0b10100010, 0x34] (.ldxImm 0x34) &&
      reads [0b10100110, 0x34] (.ldxZp 0x34) &&
      reads [0b10110110, 0x34] (.ldxZpY 0x34) &&
      reads [0b10101110, 0x34, 0x12] (.ldxAbs 0x1234) &&
      reads [0b10111110, 0x34, 0x12] (.ldxAbsY 0x1234)) = true := by decide
theorem test_decode_ldy :
    (reads [0b10100000, 0x34] (.ldyImm 0x34) &&
      reads [0b10100100, 0x34] (.ldyZp 0x34) &&
      reads [0b10110100, 0x34] (.ldyZpX 0x34) &&
      reads [0b10101100, 0x34, 0x12] (.ldyAbs 0x1234) &&
      reads [0b10111100, 0x34, 0x12] (.ldyAbsX 0x1234)) = true := by decide
theorem test_decode_sta :
    (reads [0b10000101, 0x34] (.staZp 0x34) &&
      reads [0b10010101, 0x34] (.staZpX 0x34) &&
      reads [0b10001101, 0x34, 0x12] (.staAbs 0x1234) &&
      reads [0b10011101, 0x34, 0x12] (.staAbsX 0x1234) &&
      reads [0b10011001, 0x34, 0x12] (.staAbsY 0x1234) &&
      reads [0b10000001, 0x34] (.staIndX 0x34) &&
      reads [0b10010001, 0x34] (.staIndY 0x34)) = true := by decide
theorem test_decode_stx :
    (reads [0b10000110, 0x34] (.stxZp 0x34) &&
      reads [0b10010110, 0x34] (.stxZpY 0x34) &&
      reads [0b10001110, 0x34, 0x12] (.stxAbs 0x1234)) = true := by decide
theorem test_decode_sty :
    (reads [0b10000100, 0x34] (.styZp 0x34) &&
      reads [0b10010100, 0x34] (.styZpX 0x34) &&
      reads [0b10001100, 0x34, 0x12] (.styAbs 0x1234)) = true := by decide
theorem test_decode_tax :
    (reads [0b10101010] .tax) = true := by decide
theorem test_decode_tay :
    (reads [0b10101000] .tay) = true := by decide
theorem test_decode_txa :
    (reads [0b10001010] .txa) = true := by decide
theorem test_decode_tya :
    (reads [0b10011000] .tya) = true := by decide
theorem test_decode_tsx :
    (reads [0b10111010] .tsx) = true := by decide
theorem test_decode_txs :
    (reads [0b10011010] .txs) = true := by decide
theorem test_decode_adc :
    (reads [0b01101001, 0x34] (.adcImm 0x34) &&
      reads [0b01100101, 0x34] (.adcZp 0x34) &&
      reads [0b01110101, 0x34] (.adcZpX 0x34) &&
      reads [0b01101101, 0x34, 0x12] (.adcAbs 0x1234) &&
      reads [0b01111101, 0x34, 0x12] (.adcAbsX 0x1234) &&
      reads [0b01111001, 0x34, 0x12] (.adcAbsY 0x1234) &&
      reads [0b01100001, 0x34] (.adcIndX 0x34) &&
      reads [0b01110001, 0x34] (.adcIndY 0x34)) = true := by decide
theorem test_decode_sbc :
    (reads [0b11101001, 0x34] (.sbcImm 0x34) &&
      reads [0b11100101, 0x34] (.sbcZp 0x34) &&
      reads [0b11110101, 0x34] (.sbcZpX 0x34) &&
      reads [0b11101101, 0x34, 0x12] (.sbcAbs 0x1234) &&
      reads [0b11111101, 0x34, 0x12] (.sbcAbsX 0x1234) &&
      reads [0b11111001, 0x34, 0x12] (.sbcAbsY 0x1234) &&
      reads [0b11100001, 0x34] (.sbcIndX 0x34) &&
      reads [0b11110001, 0x34] (.sbcIndY 0x34)) = true := by decide
theorem test_decode_and :
    (reads [0b00101001, 0x34] (.andImm 0x34) &&
      reads [0b00100101, 0x34] (.andZp 0x34) &&
      reads [0b00110101, 0x34] (.andZpX 0x34) &&
      reads [0b00101101, 0x34, 0x12] (.andAbs 0x1234) &&
      reads [0b00111101, 0x34, 0x12] (.andAbsX 0x1234) &&
      reads [0b00111001, 0x34, 0x12] (.andAbsY 0x1234) &&
      reads [0b00100001, 0x34] (.andIndX 0x34) &&
      reads [0b00110001, 0x34] (.andIndY 0x34)) = true := by decide
theorem test_decode_ora :
    (reads [0b00001001, 0x34] (.oraImm 0x34) &&
      reads [0b00000101, 0x34] (.oraZp 0x34) &&
      reads [0b00010101, 0x34] (.oraZpX 0x34) &&
      reads [0b00001101, 0x34, 0x12] (.oraAbs 0x1234) &&
      reads [0b00011101, 0x34, 0x12] (.oraAbsX 0x1234) &&
      reads [0b00011001, 0x34, 0x12] (.oraAbsY 0x1234) &&
      reads [0b00000001, 0x34] (.oraIndX 0x34) &&
      reads [0b00010001, 0x34] (.oraIndY 0x34)) = true := by decide
theorem test_decode_eor :
    (reads [0b01001001, 0x34] (.eorImm 0x34) &&
      reads [0b01000101, 0x34] (.eorZp 0x34) &&
      reads [0b01010101, 0x34] (.eorZpX 0x34) &&
      reads [0b01001101, 0x34, 0x12] (.eorAbs 0x1234) &&
      reads [0b01011101, 0x34, 0x12] (.eorAbsX 0x1234) &&
      reads [0b01011001, 0x34, 0x12] (.eorAbsY 0x1234) &&
      reads [0b01000001, 0x34] (.eorIndX 0x34) &&
      reads [0b01010001, 0x34] (.eorIndY 0x34)) = true := by decide
theorem test_decode_bit :
    (reads [0b00100100, 0x34] (.bitZp 0x34) &&
      reads [0b00101100, 0x34, 0x12] (.bitAbs 0x1234)) = true := by decide
theorem test_decode_cmp :
    (reads [0b11001001, 0x34] (.cmpImm 0x34) &&
      reads [0b11000101, 0x34] (.cmpZp 0x34) &&
      reads [0b11010101, 0x34] (.cmpZpX 0x34) &&
      reads [0b11001101, 0x34, 0x12] (.cmpAbs 0x1234) &&
      reads [0b11011101, 0x34, 0x12] (.cmpAbsX 0x1234) &&
      reads [0b11011001, 0x34, 0x12] (.cmpAbsY 0x1234) &&
      reads [0b11000001, 0x34] (.cmpIndX 0x34) &&
      reads [0b11010001, 0x34] (.cmpIndY 0x34)) = true := by decide
theorem test_decode_cpx :
    (reads [0b11100000, 0x34] (.cpxImm 0x34) &&
      reads [0b11100100, 0x34] (.cpxZp 0x34) &&
      reads [0b11101100, 0x34, 0x12] (.cpxAbs 0x1234)) = true := by decide
theorem test_decode_cpy :
    (reads [0b11000000, 0x34] (.cpyImm 0x34) &&
      reads [0b11000100, 0x34] (.cpyZp 0x34) &&
      reads [0b11001100, 0x34, 0x12] (.cpyAbs 0x1234)) = true := by decide
theorem test_decode_inc :
    (reads [0b11100110, 0x34] (.incZp 0x34) &&
      reads [0b11110110, 0x34] (.incZpX 0x34) &&
      reads [0b11101110, 0x34, 0x12] (.incAbs 0x1234) &&
      reads [0b11111110, 0x34, 0x12] (.incAbsX 0x1234)) = true := by decide
theorem test_decode_dec :
    (reads [0b11000110, 0x34] (.decZp 0x34) &&
      reads [0b11010110, 0x34] (.decZpX 0x34) &&
      reads [0b11001110, 0x34, 0x12] (.decAbs 0x1234) &&
      reads [0b11011110, 0x34, 0x12] (.decAbsX 0x1234)) = true := by decide
theorem test_decode_inx :
    (reads [0b11101000] .inx) = true := by decide
theorem test_decode_iny :
    (reads [0b11001000] .iny) = true := by decide
theorem test_decode_dex :
    (reads [0b11001010] .dex) = true := by decide
theorem test_decode_dey :
    (reads [0b10001000] .dey) = true := by decide
theorem test_decode_asl :
    (reads [0b00000110, 0x34] (.aslZp 0x34) &&
      reads [0b00010110, 0x34] (.aslZpX 0x34) &&
      reads [0b00001110, 0x34, 0x12] (.aslAbs 0x1234) &&
      reads [0b00011110, 0x34, 0x12] (.aslAbsX 0x1234) &&
      reads [0b00001010] .aslAcc) = true := by decide
theorem test_decode_lsr :
    (reads [0b01000110, 0x34] (.lsrZp 0x34) &&
      reads [0b01010110, 0x34] (.lsrZpX 0x34) &&
      reads [0b01001110, 0x34, 0x12] (.lsrAbs 0x1234) &&
      reads [0b01011110, 0x34, 0x12] (.lsrAbsX 0x1234) &&
      reads [0b01001010] .lsrAcc) = true := by decide
theorem test_decode_rol :
    (reads [0b00100110, 0x34] (.rolZp 0x34) &&
      reads [0b00110110, 0x34] (.rolZpX 0x34) &&
      reads [0b00101110, 0x34, 0x12] (.rolAbs 0x1234) &&
      reads [0b00111110, 0x34, 0x12] (.rolAbsX 0x1234) &&
      reads [0b00101010] .rolAcc) = true := by decide
theorem test_decode_ror :
    (reads [0b01100110, 0x34] (.rorZp 0x34) &&
      reads [0b01110110, 0x34] (.rorZpX 0x34) &&
      reads [0b01101110, 0x34, 0x12] (.rorAbs 0x1234) &&
      reads [0b01111110, 0x34, 0x12] (.rorAbsX 0x1234) &&
      reads [0b01101010] .rorAcc) = true := by decide
theorem test_decode_bcc :
    (reads [0b10010000, 0x34] (.bcc 0x34)) = true := by decide
theorem test_decode_bcs :
    (reads [0b10110000, 0x34] (.bcs 0x34)) = true := by decide
theorem test_decode_beq :
    (reads [0b11110000, 0x34] (.beq 0x34)) = true := by decide
theorem test_decode_bmi :
    (reads [0b00110000, 0x34] (.bmi 0x34)) = true := by decide
theorem test_decode_bne :
    (reads [0b11010000, 0x34] (.bne 0x34)) = true := by decide
theorem test_decode_bpl :
    (reads [0b00010000, 0x34] (.bpl 0x34)) = true := by decide
theorem test_decode_bvc :
    (reads [0b01010000, 0x34] (.bvc 0x34)) = true := by decide
theorem test_decode_bvs :
    (reads [0b01110000, 0x34] (.bvs 0x34)) = true := by decide
theorem test_decode_jmp :
    (reads [0b01001100, 0x34, 0x12] (.jmpAbs 0x1234) &&
      reads [0b01101100, 0x34, 0x12] (.jmpInd 0x1234)) = true := by decide
theorem test_decode_jsr :
    (reads [0b00100000, 0x34, 0x12] (.jsr 0x1234)) = true := by decide
theorem test_decode_rts :
    (reads [0b01100000] .rts) = true := by decide
theorem test_decode_rti :
    (reads [0b01000000] .rti) = true := by decide
theorem test_decode_brk :
    (reads [0b00000000] .brk) = true := by decide
theorem test_decode_pha :
    (reads [0b01001000] .pha) = true := by decide
theorem test_decode_php :
    (reads [0b00001000] .php) = true := by decide
theorem test_decode_pla :
    (reads [0b01101000] .pla) = true := by decide
theorem test_decode_plp :
    (reads [0b00101000] .plp) = true := by decide
theorem test_decode_clc :
    (reads [0b00011000] .clc) = true := by decide
theorem test_decode_cld :
    (reads [0b11011000] .cld) = true := by decide
theorem test_decode_cli :
    (reads [0b01011000] .cli) = true := by decide
theorem test_decode_clv :
    (reads [0b10111000] .clv) = true := by decide
theorem test_decode_sec :
    (reads [0b00111000] .sec) = true := by decide
theorem test_decode_sed :
    (reads [0b11111000] .sed) = true := by decide
theorem test_decode_sei :
    (reads [0b01111000] .sei) = true := by decide
theorem test_decode_nop :
    (reads [0b11101010] .nop) = true := by decide

/-- Bit 0 of a table word is the lowest bit of the first byte; the bits above the row's own are 0. -/
theorem test_decodeTableWord :
    decodeTableWord 16 0x41A9 = some (.ldaImm 0x41) ∧ decodeTableWord 24 0x12346C = some (.jmpInd 0x1234) ∧
    decodeTableWord 8 0xEA = some .nop ∧ decodeTableWord 8 0x20 = some (.jsr 0) ∧ decodeTableWord 8 0x02 = none := by
  decide

/-- The very next step from reset runs the placed instruction, LDA #$41 and JMP $1234. -/
theorem test_withFetchWord :
    (match step (State.reset.withFetchWord 16 0x41A9) with
      | .next t => decide (t.a = 0x41 ∧ t.pc = 2 ∧ t.status = .ok)
      | _ => false) = true ∧
    (match step (State.reset.withFetchWord 24 0x12344C) with
      | .next t => decide (t.pc = 0x1234)
      | _ => false) = true := by
  decide

/-! ## The single-step vectors of spec 95 -/

/-- P with the letters NVDIZC of a vector as bits 5 to 0. -/
def flagsOf (w : Nat) : Flags :=
  ⟨w.testBit 0, w.testBit 1, w.testBit 2, w.testBit 3, false, w.testBit 4, w.testBit 5⟩

/-- One row of the tables of spec 95: the start, then (primed) the end. "Registers not listed in start hold A = X = Y = 0x00 and S =
0xFF"; `status' = none` is HostHalt. -/
structure Vec where
  at0 : Addr
  bytes : List Byte
  mem : List (Addr × Byte) := []
  a : Byte := 0
  x : Byte := 0
  y : Byte := 0
  sp : Byte := 0xFF
  p : Nat := 0
  hook : HookAnswer := .value 0
  wrap : Bool := true
  brkHook : Bool := true
  status' : Option Status := some .ok
  a' : Byte := 0
  x' : Byte := 0
  y' : Byte := 0
  sp' : Byte := 0xFF
  pc' : Addr
  p' : Nat := 0
  writes' : List (Addr × Byte) := []
  cycles' : Nat := 0

/-- The start state: mode Executing, ticks 0, the reference Bus. -/
def Vec.start (v : Vec) : State :=
  State.placeBytes v.bytes v.at0
    { a := v.a, x := v.x, y := v.y, sp := v.sp, pc := v.at0, p := flagsOf v.p, ticks := 0, mode := .executing, status := .ok,
      params := ⟨v.wrap, v.brkHook, false⟩, bus := ⟨Memory.writeAll [] v.mem, [], [], [⟨v.hook, []⟩], []⟩, draws := 0 }

/-- The Bus writes among some calls, in the order they were made. -/
def writesOf (calls : List BusCall) : List (Addr × Byte) :=
  calls.reverse.filterMap fun
    | .write a w => some (a, w)
    | .read _ => none
    | .call _ _ => none

/-- One `step()` gives the end of the row, and one `tick()` leaves one cycle fewer than the row's count. -/
def Vec.holds (v : Vec) : Bool :=
  (match step v.start, v.status' with
    | .next t, some st =>
      t.a == v.a' && t.x == v.x' && t.y == v.y' && t.sp == v.sp' && t.pc == v.pc' && t.ticks == 0 && t.status == st &&
        (Flags.mk t.p.c t.p.z t.p.i t.p.d false t.p.v t.p.n == flagsOf v.p') && writesOf t.bus.calls == v.writes'
    | .fault .hostHalt, none => true
    | _, _ => false) &&
  (match tick v.start with
    | .next t => t.ticks == v.cycles' - 1
    | .fault .hostHalt => v.status'.isNone
    | .refused _ => false)

/-- AM13, LS1, LS2 of spec 95. -/
theorem test_step_ldaImm : List.all (α := Vec) [
    { at0 := 0x0200#16, bytes := [0xA9, 0x7F], a' := 0x7F, pc' := 0x0202#16, cycles' := 2 },
    { at0 := 0x0200#16, bytes := [0xA9, 0x00], a := 0x55, p := 0b100000, pc' := 0x0202#16, p' := 0b000010, cycles' := 2 },
    { at0 := 0x0200#16, bytes := [0xA9, 0x80], p := 0b000010, a' := 0x80, pc' := 0x0202#16, p' := 0b100000, cycles' := 2 }] Vec.holds = true := by decide
/-- AM14 of spec 95. -/
theorem test_step_ldaZp :
    Vec.holds { at0 := 0x0200#16, bytes := [0xA5, 0x80], mem := [(0x0080#16, 0xFF)], a' := 0xFF, pc' := 0x0202#16, p' := 0b100000, cycles' := 3 } = true := by decide
/-- AM1 of spec 95. -/
theorem test_step_ldaZpX :
    Vec.holds { at0 := 0x0200#16, bytes := [0xB5, 0xF0], mem := [(0x0010#16, 0x5A), (0x0110#16, 0xEE)], x := 0x20, a' := 0x5A, x' := 0x20, pc' := 0x0202#16, cycles' := 4 } = true := by decide
/-- FD4, FD5 of spec 95. -/
theorem test_step_ldaAbs : List.all (α := Vec) [
    { at0 := 0x0200#16, bytes := [0xAD, 0x00, 0x30], mem := [(0x3000#16, 0x01)], a' := 0x01, pc' := 0x0203#16, cycles' := 4 },
    { at0 := 0xFFFE#16, bytes := [0xAD, 0x00], mem := [(0x0000#16, 0x30), (0x3000#16, 0x09)], a' := 0x09, pc' := 0x0001#16, cycles' := 4 }] Vec.holds = true := by decide
/-- AM6, AM7, AM8 of spec 95. -/
theorem test_step_ldaAbsX : List.all (α := Vec) [
    { at0 := 0x0200#16, bytes := [0xBD, 0x00, 0x12], mem := [(0x1205#16, 0x11)], x := 0x05, a' := 0x11, x' := 0x05, pc' := 0x0203#16, cycles' := 4 },
    { at0 := 0x0200#16, bytes := [0xBD, 0xFF, 0x12], mem := [(0x1300#16, 0x22)], x := 0x01, a' := 0x22, x' := 0x01, pc' := 0x0203#16, cycles' := 5 },
    { at0 := 0x0200#16, bytes := [0xBD, 0xFF, 0xFF], mem := [(0x0001#16, 0x33)], x := 0x02, a' := 0x33, x' := 0x02, pc' := 0x0203#16, cycles' := 5 }] Vec.holds = true := by decide
/-- AM15 of spec 95. -/
theorem test_step_ldaAbsY :
    Vec.holds { at0 := 0x0200#16, bytes := [0xB9, 0x80, 0x20], mem := [(0x2100#16, 0x00)], y := 0x80, y' := 0x80, pc' := 0x0203#16, p' := 0b000010, cycles' := 5 } = true := by decide
/-- AM3 of spec 95. -/
theorem test_step_ldaIndX :
    Vec.holds { at0 := 0x0200#16, bytes := [0xA1, 0xFE], mem := [(0x0000#16, 0x12), (0x00FF#16, 0x34), (0x1234#16, 0x99)], x := 0x01, a' := 0x99, x' := 0x01, pc' := 0x0202#16, p' := 0b100000, cycles' := 6 } = true := by decide
/-- AM4, AM5 of spec 95. -/
theorem test_step_ldaIndY : List.all (α := Vec) [
    { at0 := 0x0200#16, bytes := [0xB1, 0xFF], mem := [(0x0000#16, 0x30), (0x00FF#16, 0x00), (0x3000#16, 0x42)], y := 0x00, a' := 0x42, pc' := 0x0202#16, cycles' := 5 },
    { at0 := 0x0200#16, bytes := [0xB1, 0x10], mem := [(0x0010#16, 0xF8), (0x0011#16, 0x12), (0x1308#16, 0x01)], y := 0x10, a' := 0x01, y' := 0x10, pc' := 0x0202#16, cycles' := 6 }] Vec.holds = true := by decide
/-- LS3 of spec 95. -/
theorem test_step_ldxZp :
    Vec.holds { at0 := 0x0200#16, bytes := [0xA6, 0x10], mem := [(0x0010#16, 0x01)], x' := 0x01, pc' := 0x0202#16, cycles' := 3 } = true := by decide
/-- AM2 of spec 95. -/
theorem test_step_ldxZpY :
    Vec.holds { at0 := 0x0200#16, bytes := [0xB6, 0xFF], mem := [(0x0001#16, 0x77)], y := 0x02, x' := 0x77, y' := 0x02, pc' := 0x0202#16, cycles' := 4 } = true := by decide
/-- LS4 of spec 95. -/
theorem test_step_ldyAbsX :
    Vec.holds { at0 := 0x0200#16, bytes := [0xBC, 0x00, 0x04], mem := [(0x0403#16, 0xC0)], x := 0x03, x' := 0x03, y' := 0xC0, pc' := 0x0203#16, p' := 0b100000, cycles' := 4 } = true := by decide
/-- LS5 of spec 95. -/
theorem test_step_staZp :
    Vec.holds { at0 := 0x0200#16, bytes := [0x85, 0x20], a := 0x00, p := 0b100001, pc' := 0x0202#16, p' := 0b100001, writes' := [(0x0020#16, 0x00)], cycles' := 3 } = true := by decide
/-- AM9 of spec 95. -/
theorem test_step_staAbsX :
    Vec.holds { at0 := 0x0200#16, bytes := [0x9D, 0xFF, 0x12], a := 0x44, x := 0x01, a' := 0x44, x' := 0x01, pc' := 0x0203#16, writes' := [(0x1300#16, 0x44)], cycles' := 5 } = true := by decide
/-- AM16 of spec 95. -/
theorem test_step_staIndY :
    Vec.holds { at0 := 0x0200#16, bytes := [0x91, 0x10], mem := [(0x0010#16, 0xF8), (0x0011#16, 0x12)], a := 0x5A, y := 0x10, a' := 0x5A, y' := 0x10, pc' := 0x0202#16, writes' := [(0x1308#16, 0x5A)], cycles' := 6 } = true := by decide
/-- LS6 of spec 95. -/
theorem test_step_stxZpY :
    Vec.holds { at0 := 0x0200#16, bytes := [0x96, 0xFF], x := 0xAB, y := 0x02, x' := 0xAB, y' := 0x02, pc' := 0x0202#16, writes' := [(0x0001#16, 0xAB)], cycles' := 4 } = true := by decide
/-- LS7 of spec 95. -/
theorem test_step_styAbs :
    Vec.holds { at0 := 0x0200#16, bytes := [0x8C, 0x34, 0x12], y := 0x7E, y' := 0x7E, pc' := 0x0203#16, writes' := [(0x1234#16, 0x7E)], cycles' := 4 } = true := by decide
/-- LS8 of spec 95. -/
theorem test_step_tax :
    Vec.holds { at0 := 0x0200#16, bytes := [0xAA], a := 0x00, x := 0x33, pc' := 0x0201#16, p' := 0b000010, cycles' := 2 } = true := by decide
/-- LS9 of spec 95. -/
theorem test_step_tay :
    Vec.holds { at0 := 0x0200#16, bytes := [0xA8], a := 0x90, a' := 0x90, y' := 0x90, pc' := 0x0201#16, p' := 0b100000, cycles' := 2 } = true := by decide
/-- LS10 of spec 95. -/
theorem test_step_txa :
    Vec.holds { at0 := 0x0200#16, bytes := [0x8A], a := 0x00, x := 0x41, a' := 0x41, x' := 0x41, pc' := 0x0201#16, cycles' := 2 } = true := by decide
/-- LS11 of spec 95. -/
theorem test_step_tya :
    Vec.holds { at0 := 0x0200#16, bytes := [0x98], y := 0xFF, a' := 0xFF, y' := 0xFF, pc' := 0x0201#16, p' := 0b100000, cycles' := 2 } = true := by decide
/-- LS12 of spec 95. -/
theorem test_step_tsx :
    Vec.holds { at0 := 0x0200#16, bytes := [0xBA], sp := 0x80, x' := 0x80, sp' := 0x80, pc' := 0x0201#16, p' := 0b100000, cycles' := 2 } = true := by decide
/-- LS13 of spec 95. -/
theorem test_step_txs :
    Vec.holds { at0 := 0x0200#16, bytes := [0x9A], x := 0x00, p := 0b100000, sp' := 0x00, pc' := 0x0201#16, p' := 0b100000, cycles' := 2 } = true := by decide
/-- AR1, AR2, AR3, AR4, AR5, AR6 of spec 95. -/
theorem test_step_adcImm : List.all (α := Vec) [
    { at0 := 0x0200#16, bytes := [0x69, 0x50], a := 0x50, a' := 0xA0, pc' := 0x0202#16, p' := 0b110000, cycles' := 2 },
    { at0 := 0x0200#16, bytes := [0x69, 0x01], a := 0xFF, pc' := 0x0202#16, p' := 0b000011, cycles' := 2 },
    { at0 := 0x0200#16, bytes := [0x69, 0x80], a := 0x80, pc' := 0x0202#16, p' := 0b010011, cycles' := 2 },
    { at0 := 0x0200#16, bytes := [0x69, 0x00], a := 0x7F, p := 0b000001, a' := 0x80, pc' := 0x0202#16, p' := 0b110000, cycles' := 2 },
    { at0 := 0x0200#16, bytes := [0x69, 0x01], a := 0x99, p := 0b001000, pc' := 0x0202#16, p' := 0b001011, cycles' := 2 },
    { at0 := 0x0200#16, bytes := [0x69, 0x46], a := 0x58, p := 0b001001, a' := 0x05, pc' := 0x0202#16, p' := 0b011001, cycles' := 2 }] Vec.holds = true := by decide
/-- AR7, AR8, AR9, AR10, AR11 of spec 95. -/
theorem test_step_adcImm_more : List.all (α := Vec) [
    { at0 := 0x0200#16, bytes := [0x69, 0x34], a := 0x12, p := 0b001000, a' := 0x46, pc' := 0x0202#16, p' := 0b001000, cycles' := 2 },
    { at0 := 0x0200#16, bytes := [0x69, 0x01], a := 0x09, p := 0b001000, a' := 0x10, pc' := 0x0202#16, p' := 0b001000, cycles' := 2 },
    { at0 := 0x0200#16, bytes := [0x69, 0x50], a := 0x50, p := 0b001000, pc' := 0x0202#16, p' := 0b011011, cycles' := 2 },
    { at0 := 0x0200#16, bytes := [0x69, 0x00], a := 0x79, p := 0b001001, a' := 0x80, pc' := 0x0202#16, p' := 0b111000, cycles' := 2 },
    { at0 := 0x0200#16, bytes := [0x69, 0x0F], a := 0x0F, p := 0b001000, a' := 0x14, pc' := 0x0202#16, p' := 0b001000, cycles' := 2 }] Vec.holds = true := by decide
/-- AR12, AR13, AR14, AR15, AR16 of spec 95. -/
theorem test_step_sbcImm : List.all (α := Vec) [
    { at0 := 0x0200#16, bytes := [0xE9, 0xF0], a := 0x50, p := 0b000001, a' := 0x60, pc' := 0x0202#16, cycles' := 2 },
    { at0 := 0x0200#16, bytes := [0xE9, 0xB0], a := 0x50, p := 0b000001, a' := 0xA0, pc' := 0x0202#16, p' := 0b110000, cycles' := 2 },
    { at0 := 0x0200#16, bytes := [0xE9, 0x01], a := 0x00, p := 0b000001, a' := 0xFF, pc' := 0x0202#16, p' := 0b100000, cycles' := 2 },
    { at0 := 0x0200#16, bytes := [0xE9, 0x03], a := 0x05, a' := 0x01, pc' := 0x0202#16, p' := 0b000001, cycles' := 2 },
    { at0 := 0x0200#16, bytes := [0xE9, 0x01], a := 0x80, p := 0b000001, a' := 0x7F, pc' := 0x0202#16, p' := 0b010001, cycles' := 2 }] Vec.holds = true := by decide
/-- AR17, AR18, AR19, AR20, AR21 of spec 95. -/
theorem test_step_sbcImm_more : List.all (α := Vec) [
    { at0 := 0x0200#16, bytes := [0xE9, 0x12], a := 0x46, p := 0b001001, a' := 0x34, pc' := 0x0202#16, p' := 0b001001, cycles' := 2 },
    { at0 := 0x0200#16, bytes := [0xE9, 0x13], a := 0x40, p := 0b001001, a' := 0x27, pc' := 0x0202#16, p' := 0b001001, cycles' := 2 },
    { at0 := 0x0200#16, bytes := [0xE9, 0x21], a := 0x12, p := 0b001001, a' := 0x91, pc' := 0x0202#16, p' := 0b101000, cycles' := 2 },
    { at0 := 0x0200#16, bytes := [0xE9, 0x01], a := 0x00, p := 0b001001, a' := 0x99, pc' := 0x0202#16, p' := 0b101000, cycles' := 2 },
    { at0 := 0x0200#16, bytes := [0xE9, 0x02], a := 0x32, p := 0b001000, a' := 0x29, pc' := 0x0202#16, p' := 0b001001, cycles' := 2 }] Vec.holds = true := by decide
/-- AR22 of spec 95. -/
theorem test_step_andImm :
    Vec.holds { at0 := 0x0200#16, bytes := [0x29, 0x0F], a := 0xF0, pc' := 0x0202#16, p' := 0b000010, cycles' := 2 } = true := by decide
/-- AR23 of spec 95. -/
theorem test_step_oraImm :
    Vec.holds { at0 := 0x0200#16, bytes := [0x09, 0x80], a := 0x01, a' := 0x81, pc' := 0x0202#16, p' := 0b100000, cycles' := 2 } = true := by decide
/-- AR24 of spec 95. -/
theorem test_step_eorImm :
    Vec.holds { at0 := 0x0200#16, bytes := [0x49, 0xFF], a := 0xFF, pc' := 0x0202#16, p' := 0b000010, cycles' := 2 } = true := by decide
/-- AR25 of spec 95. -/
theorem test_step_bitZp :
    Vec.holds { at0 := 0x0200#16, bytes := [0x24, 0x10], mem := [(0x0010#16, 0xC0)], a := 0x01, a' := 0x01, pc' := 0x0202#16, p' := 0b110010, cycles' := 3 } = true := by decide
/-- AR26 of spec 95. -/
theorem test_step_bitAbs :
    Vec.holds { at0 := 0x0200#16, bytes := [0x2C, 0x00, 0x30], mem := [(0x3000#16, 0x01)], a := 0xFF, p := 0b110000, a' := 0xFF, pc' := 0x0203#16, cycles' := 4 } = true := by decide
/-- AR27, AR28, AR29, AR38 of spec 95. -/
theorem test_step_cmpImm : List.all (α := Vec) [
    { at0 := 0x0200#16, bytes := [0xC9, 0x41], a := 0x41, a' := 0x41, pc' := 0x0202#16, p' := 0b000011, cycles' := 2 },
    { at0 := 0x0200#16, bytes := [0xC9, 0x42], a := 0x41, a' := 0x41, pc' := 0x0202#16, p' := 0b100000, cycles' := 2 },
    { at0 := 0x0200#16, bytes := [0xC9, 0x01], a := 0x80, p := 0b010000, a' := 0x80, pc' := 0x0202#16, p' := 0b010001, cycles' := 2 },
    { at0 := 0x0200#16, bytes := [0xC9, 0x10], a := 0x09, p := 0b001000, a' := 0x09, pc' := 0x0202#16, p' := 0b101000, cycles' := 2 }] Vec.holds = true := by decide
/-- AR30 of spec 95. -/
theorem test_step_cpxImm :
    Vec.holds { at0 := 0x0200#16, bytes := [0xE0, 0x5B], x := 0x5B, x' := 0x5B, pc' := 0x0202#16, p' := 0b000011, cycles' := 2 } = true := by decide
/-- AR31 of spec 95. -/
theorem test_step_cpyZp :
    Vec.holds { at0 := 0x0200#16, bytes := [0xC4, 0x10], mem := [(0x0010#16, 0x01)], y := 0x00, pc' := 0x0202#16, p' := 0b100000, cycles' := 3 } = true := by decide
/-- AR32 of spec 95. -/
theorem test_step_incZp :
    Vec.holds { at0 := 0x0200#16, bytes := [0xE6, 0x10], mem := [(0x0010#16, 0xFF)], pc' := 0x0202#16, p' := 0b000010, writes' := [(0x0010#16, 0x00)], cycles' := 5 } = true := by decide
/-- AR33 of spec 95. -/
theorem test_step_decAbs :
    Vec.holds { at0 := 0x0200#16, bytes := [0xCE, 0x00, 0x30], mem := [(0x3000#16, 0x00)], pc' := 0x0203#16, p' := 0b100000, writes' := [(0x3000#16, 0xFF)], cycles' := 6 } = true := by decide
/-- AR34 of spec 95. -/
theorem test_step_inx :
    Vec.holds { at0 := 0x0200#16, bytes := [0xE8], x := 0xFF, pc' := 0x0201#16, p' := 0b000010, cycles' := 2 } = true := by decide
/-- AR35 of spec 95. -/
theorem test_step_iny :
    Vec.holds { at0 := 0x0200#16, bytes := [0xC8], y := 0x7F, y' := 0x80, pc' := 0x0201#16, p' := 0b100000, cycles' := 2 } = true := by decide
/-- AR36 of spec 95. -/
theorem test_step_dex :
    Vec.holds { at0 := 0x0200#16, bytes := [0xCA], x := 0x01, pc' := 0x0201#16, p' := 0b000010, cycles' := 2 } = true := by decide
/-- AR37 of spec 95. -/
theorem test_step_dey :
    Vec.holds { at0 := 0x0200#16, bytes := [0x88], y := 0x00, y' := 0xFF, pc' := 0x0201#16, p' := 0b100000, cycles' := 2 } = true := by decide
/-- SR5 of spec 95. -/
theorem test_step_aslZp :
    Vec.holds { at0 := 0x0200#16, bytes := [0x06, 0x10], mem := [(0x0010#16, 0x41)], pc' := 0x0202#16, p' := 0b100000, writes' := [(0x0010#16, 0x82)], cycles' := 5 } = true := by decide
/-- SR1 of spec 95. -/
theorem test_step_aslAcc :
    Vec.holds { at0 := 0x0200#16, bytes := [0x0A], a := 0x80, pc' := 0x0201#16, p' := 0b000011, cycles' := 2 } = true := by decide
/-- SR6 of spec 95. -/
theorem test_step_lsrAbsX :
    Vec.holds { at0 := 0x0200#16, bytes := [0x5E, 0x00, 0x30], mem := [(0x3001#16, 0x80)], x := 0x01, x' := 0x01, pc' := 0x0203#16, writes' := [(0x3001#16, 0x40)], cycles' := 7 } = true := by decide
/-- SR2 of spec 95. -/
theorem test_step_lsrAcc :
    Vec.holds { at0 := 0x0200#16, bytes := [0x4A], a := 0x01, pc' := 0x0201#16, p' := 0b000011, cycles' := 2 } = true := by decide
/-- SR7 of spec 95. -/
theorem test_step_rolZpX :
    Vec.holds { at0 := 0x0200#16, bytes := [0x36, 0x10], mem := [(0x0011#16, 0x7F)], x := 0x01, x' := 0x01, pc' := 0x0202#16, p' := 0b100000, writes' := [(0x0011#16, 0xFE)], cycles' := 6 } = true := by decide
/-- SR3 of spec 95. -/
theorem test_step_rolAcc :
    Vec.holds { at0 := 0x0200#16, bytes := [0x2A], a := 0x80, p := 0b000001, a' := 0x01, pc' := 0x0201#16, p' := 0b000001, cycles' := 2 } = true := by decide
/-- SR8 of spec 95. -/
theorem test_step_rorAbs :
    Vec.holds { at0 := 0x0200#16, bytes := [0x6E, 0x00, 0x30], mem := [(0x3000#16, 0x03)], pc' := 0x0203#16, p' := 0b000001, writes' := [(0x3000#16, 0x01)], cycles' := 6 } = true := by decide
/-- SR4 of spec 95. -/
theorem test_step_rorAcc :
    Vec.holds { at0 := 0x0200#16, bytes := [0x6A], a := 0x00, p := 0b000001, a' := 0x80, pc' := 0x0201#16, p' := 0b100000, cycles' := 2 } = true := by decide
/-- CT4 of spec 95. -/
theorem test_step_bcc :
    Vec.holds { at0 := 0x02F0#16, bytes := [0x90, 0x7F], pc' := 0x0371#16, cycles' := 4 } = true := by decide
/-- CT5 of spec 95. -/
theorem test_step_bcs :
    Vec.holds { at0 := 0x0210#16, bytes := [0xB0, 0x80], p := 0b000001, pc' := 0x0192#16, p' := 0b000001, cycles' := 4 } = true := by decide
/-- CT3 of spec 95. -/
theorem test_step_beq :
    Vec.holds { at0 := 0x0200#16, bytes := [0xF0, 0xFE], p := 0b000010, pc' := 0x0200#16, p' := 0b000010, cycles' := 3 } = true := by decide
/-- CT6 of spec 95. -/
theorem test_step_bmi :
    Vec.holds { at0 := 0x0200#16, bytes := [0x30, 0x05], pc' := 0x0202#16, cycles' := 2 } = true := by decide
/-- CT1, CT2, CT10 of spec 95. -/
theorem test_step_bne : List.all (α := Vec) [
    { at0 := 0x0200#16, bytes := [0xD0, 0x10], pc' := 0x0212#16, cycles' := 3 },
    { at0 := 0x0200#16, bytes := [0xD0, 0x10], p := 0b000010, pc' := 0x0202#16, p' := 0b000010, cycles' := 2 },
    { at0 := 0xFFF0#16, bytes := [0xD0, 0x10], pc' := 0x0002#16, cycles' := 4 }] Vec.holds = true := by decide
/-- CT7 of spec 95. -/
theorem test_step_bpl :
    Vec.holds { at0 := 0x0200#16, bytes := [0x10, 0x05], pc' := 0x0207#16, cycles' := 3 } = true := by decide
/-- CT8 of spec 95. -/
theorem test_step_bvc :
    Vec.holds { at0 := 0x0200#16, bytes := [0x50, 0x02], pc' := 0x0204#16, cycles' := 3 } = true := by decide
/-- CT9 of spec 95. -/
theorem test_step_bvs :
    Vec.holds { at0 := 0x0200#16, bytes := [0x70, 0x02], p := 0b010000, pc' := 0x0204#16, p' := 0b010000, cycles' := 3 } = true := by decide
/-- CT11 of spec 95. -/
theorem test_step_jmpAbs :
    Vec.holds { at0 := 0x0200#16, bytes := [0x4C, 0x00, 0x03], pc' := 0x0300#16, cycles' := 3 } = true := by decide
/-- AM10, AM11, AM12 of spec 95. -/
theorem test_step_jmpInd : List.all (α := Vec) [
    { at0 := 0x0200#16, bytes := [0x6C, 0x00, 0x30], mem := [(0x3000#16, 0x00), (0x3001#16, 0x40)], pc' := 0x4000#16, cycles' := 5 },
    { at0 := 0x0200#16, bytes := [0x6C, 0xFF, 0x30], mem := [(0x3000#16, 0x50), (0x30FF#16, 0x80), (0x3100#16, 0x60)], pc' := 0x5080#16, cycles' := 5 },
    { at0 := 0x0200#16, bytes := [0x6C, 0xFF, 0x30], mem := [(0x3000#16, 0x50), (0x30FF#16, 0x80), (0x3100#16, 0x60)], wrap := false, pc' := 0x6080#16, cycles' := 5 }] Vec.holds = true := by decide
/-- CT12, CT13, CT14, CT15 of spec 95. -/
theorem test_step_jsr : List.all (α := Vec) [
    { at0 := 0x0200#16, bytes := [0x20, 0x34, 0x12], sp := 0xFF, sp' := 0xFD, pc' := 0x1234#16, writes' := [(0x01FF#16, 0x02), (0x01FE#16, 0x02)], cycles' := 6 },
    { at0 := 0x0200#16, bytes := [0x20, 0xEE, 0xFF], sp := 0xFF, hook := .value 0x0203, pc' := 0x0203#16, cycles' := 6 },
    { at0 := 0x0200#16, bytes := [0x20, 0x00, 0x40], sp := 0xFF, hook := .halt, status' := none, pc' := 0x0203#16 },
    { at0 := 0x0200#16, bytes := [0x20, 0x34, 0x12], sp := 0x00, sp' := 0xFE, pc' := 0x1234#16, writes' := [(0x0100#16, 0x02), (0x01FF#16, 0x02)], cycles' := 6 }] Vec.holds = true := by decide
/-- CT16, CT17 of spec 95. -/
theorem test_step_rts : List.all (α := Vec) [
    { at0 := 0x0200#16, bytes := [0x60], mem := [(0x01FE#16, 0x02), (0x01FF#16, 0x02)], sp := 0xFD, pc' := 0x0203#16, cycles' := 6 },
    { at0 := 0x0200#16, bytes := [0x60], mem := [(0x01FE#16, 0xFF), (0x01FF#16, 0xFF)], sp := 0xFD, pc' := 0x0000#16, cycles' := 6 }] Vec.holds = true := by decide
/-- CT18 of spec 95. -/
theorem test_step_rti :
    Vec.holds { at0 := 0x0200#16, bytes := [0x40], mem := [(0x01FD#16, 0xDF), (0x01FE#16, 0x00), (0x01FF#16, 0x03)], sp := 0xFC, p := 0b000100, pc' := 0x0300#16, p' := 0b111111, cycles' := 6 } = true := by decide
/-- CT19, CT20, CT21, CT22, CT23, CT24 of spec 95. -/
theorem test_step_brk : List.all (α := Vec) [
    { at0 := 0x0300#16, bytes := [0x00, 0xEA], mem := [(0xFFFE#16, 0x00), (0xFFFF#16, 0x80)], sp := 0xFF, p := 0b000001, sp' := 0xFC, pc' := 0x8000#16, p' := 0b000101, writes' := [(0x01FF#16, 0x03), (0x01FE#16, 0x02), (0x01FD#16, 0x31)], cycles' := 7 },
    { at0 := 0x0300#16, bytes := [0x00], sp := 0xFF, hook := .value 0x0400, pc' := 0x0400#16, cycles' := 7 },
    { at0 := 0x0300#16, bytes := [0x00], sp := 0xFF, hook := .halt, status' := none, pc' := 0x0301#16 },
    { at0 := 0x0300#16, bytes := [0x00], sp := 0xFF, sp' := 0xFC, pc' := 0x0000#16, p' := 0b000100, writes' := [(0x01FF#16, 0x03), (0x01FE#16, 0x02), (0x01FD#16, 0x30)], cycles' := 7 },
    { at0 := 0x0300#16, bytes := [0x00], sp := 0xFF, brkHook := false, sp' := 0xFC, pc' := 0x0000#16, p' := 0b000100, writes' := [(0x01FF#16, 0x03), (0x01FE#16, 0x02), (0x01FD#16, 0x30)], cycles' := 7 },
    { at0 := 0x0300#16, bytes := [0x00], mem := [(0xFFFE#16, 0x00), (0xFFFF#16, 0x80)], sp := 0xFF, p := 0b001100, sp' := 0xFC, pc' := 0x8000#16, p' := 0b001100, writes' := [(0x01FF#16, 0x03), (0x01FE#16, 0x02), (0x01FD#16, 0x3C)], cycles' := 7 }] Vec.holds = true := by decide
/-- SF1, SF2 of spec 95. -/
theorem test_step_pha : List.all (α := Vec) [
    { at0 := 0x0200#16, bytes := [0x48], a := 0x41, sp := 0xFF, a' := 0x41, sp' := 0xFE, pc' := 0x0201#16, writes' := [(0x01FF#16, 0x41)], cycles' := 3 },
    { at0 := 0x0200#16, bytes := [0x48], a := 0x41, sp := 0x00, a' := 0x41, pc' := 0x0201#16, writes' := [(0x0100#16, 0x41)], cycles' := 3 }] Vec.holds = true := by decide
/-- SF3 of spec 95. -/
theorem test_step_php :
    Vec.holds { at0 := 0x0200#16, bytes := [0x08], sp := 0xFF, p := 0b000011, sp' := 0xFE, pc' := 0x0201#16, p' := 0b000011, writes' := [(0x01FF#16, 0x33)], cycles' := 3 } = true := by decide
/-- SF4, SF5 of spec 95. -/
theorem test_step_pla : List.all (α := Vec) [
    { at0 := 0x0200#16, bytes := [0x68], mem := [(0x01FF#16, 0x80)], sp := 0xFE, a' := 0x80, pc' := 0x0201#16, p' := 0b100000, cycles' := 4 },
    { at0 := 0x0200#16, bytes := [0x68], mem := [(0x0100#16, 0x00)], sp := 0xFF, sp' := 0x00, pc' := 0x0201#16, p' := 0b000010, cycles' := 4 }] Vec.holds = true := by decide
/-- SF6, SF7 of spec 95. -/
theorem test_step_plp : List.all (α := Vec) [
    { at0 := 0x0200#16, bytes := [0x28], mem := [(0x01FF#16, 0xFF)], sp := 0xFE, pc' := 0x0201#16, p' := 0b111111, cycles' := 4 },
    { at0 := 0x0200#16, bytes := [0x28], mem := [(0x01FF#16, 0x00)], sp := 0xFE, p := 0b100001, pc' := 0x0201#16, cycles' := 4 }] Vec.holds = true := by decide
/-- SF8 of spec 95. -/
theorem test_step_clc :
    Vec.holds { at0 := 0x0200#16, bytes := [0x18], p := 0b000001, pc' := 0x0201#16, cycles' := 2 } = true := by decide
/-- SF13 of spec 95. -/
theorem test_step_cld :
    Vec.holds { at0 := 0x0200#16, bytes := [0xD8], p := 0b001000, pc' := 0x0201#16, cycles' := 2 } = true := by decide
/-- SF10 of spec 95. -/
theorem test_step_cli :
    Vec.holds { at0 := 0x0200#16, bytes := [0x58], p := 0b000100, pc' := 0x0201#16, cycles' := 2 } = true := by decide
/-- SF12 of spec 95. -/
theorem test_step_clv :
    Vec.holds { at0 := 0x0200#16, bytes := [0xB8], p := 0b010000, pc' := 0x0201#16, cycles' := 2 } = true := by decide
/-- SF9 of spec 95. -/
theorem test_step_sec :
    Vec.holds { at0 := 0x0200#16, bytes := [0x38], pc' := 0x0201#16, p' := 0b000001, cycles' := 2 } = true := by decide
/-- SF14 of spec 95. -/
theorem test_step_sed :
    Vec.holds { at0 := 0x0200#16, bytes := [0xF8], pc' := 0x0201#16, p' := 0b001000, cycles' := 2 } = true := by decide
/-- SF11 of spec 95. -/
theorem test_step_sei :
    Vec.holds { at0 := 0x0200#16, bytes := [0x78], pc' := 0x0201#16, p' := 0b000100, cycles' := 2 } = true := by decide
/-- SF15 of spec 95. -/
theorem test_step_nop :
    Vec.holds { at0 := 0x0200#16, bytes := [0xEA], p := 0b100001, pc' := 0x0201#16, p' := 0b100001, cycles' := 2 } = true := by decide
/-- FD1, FD2, FD3 of spec 95. -/
theorem test_step_illegal : List.all (α := Vec) [
    { at0 := 0x0200#16, bytes := [0x02], status' := some .illegal, pc' := 0x0201#16, cycles' := 0 },
    { at0 := 0xFFFF#16, bytes := [0xFF], status' := some .illegal, pc' := 0x0000#16, cycles' := 0 },
    { at0 := 0x0200#16, bytes := [0x80, 0x00], status' := some .illegal, pc' := 0x0201#16, cycles' := 0 }] Vec.holds = true := by decide

/-! ## The driver (DR1 to DR8 of spec 95) -/

/-- DR1's set-up: `AD 00 30` at 0x0200, [3000]=01, the NMI vector 0x9000, mode Reset. -/
def dr1 : State :=
  { Vec.start { at0 := 0x0200#16, bytes := [0xAD, 0x00, 0x30], mem := [(0x3000#16, 0x01), (0xFFFB#16, 0x90)], pc' := 0 } with
    mode := .reset }

/-- The state a result carries, if it carries one. -/
def stateOf (r : Result) (s : State) : State :=
  match r with
  | .next t => t
  | .fault _ => s
  | .refused _ => s

/-- The result is this next state. -/
def answers (r : Result) (t : State) : Bool :=
  match r with
  | .next u => decide (u = t)
  | .fault _ => false
  | .refused _ => false

/-- The result is a refusal because of a faulted mode. -/
def refusesFaulted (r : Result) : Bool :=
  match r with
  | .next _ => false
  | .fault _ => false
  | .refused q => decide (q = .faultedMode)

/-- DR1: A, PC, ticks, mode and the Bus reads after one tick. -/
theorem test_tick_first : (match tick dr1 with
    | .next t => decide (t.a = 0x01 ∧ t.pc = 0x0203 ∧ t.ticks = 3 ∧ t.mode = .executing ∧
        t.bus.calls = [.read 0x3000, .read 0x0202, .read 0x0201, .read 0x0200])
    | _ => false) = true := by decide

/-- DR2 and DR4: with ticks = 3, a tick counts down and a step finishes; no Bus call. -/
theorem test_tick_and_step_in_progress :
    let s := stateOf (tick dr1) dr1
    answers (tick s) { s with ticks := 2, status := .ok } = true ∧
    answers (step s) { s with ticks := 0, status := .ok } = true := by decide

/-- DR5: nmi() with ticks = 3 pushes 02, 03 and P, and leaves ticks 3. -/
theorem test_nmi_between_ticks : (match nmiCall (stateOf (tick dr1) dr1) with
    | .next t => decide (t.pc = 0x9000 ∧ t.ticks = 3 ∧ t.mode = .executing ∧
        writesOf t.bus.calls = [(0x01FF, 0x02), (0x01FE, 0x03), (0x01FD, 0x20)])
    | _ => false) = true := by decide

/-- DR6 and DR7: an illegal opcode, then refusals. -/
def dr6 : State := Vec.start { at0 := 0x0200#16, bytes := [0x02], mem := [(0xFFFD#16, 0x02), (0xFFFF#16, 0x80)], pc' := 0 }

theorem test_illegal_then_refused :
    let s := stateOf (tick dr6) dr6
    s.pc = 0x0201 ∧ s.mode = .faulted .illegal ∧ s.status = .illegal ∧ s.ticks = 0 ∧
    refusesFaulted (tick s) = true ∧ refusesFaulted (step s) = true ∧ ((run 1 s).map refusesFaulted) = some true := by decide

/-- DR8: reset() leaves the faulted mode, and the next step meets `02` again. -/
theorem test_reset_after_illegal : (match step (resetCall (stateOf (tick dr6) dr6)) with
    | .next t => decide (t.pc = 0x0201 ∧ t.status = .illegal)
    | _ => false) = true := by decide

/-- IR7: irq() from a faulted mode is performed; the mode stays, and a step is refused. -/
theorem test_irq_while_faulted :
    let s := stateOf (tick dr6) dr6
    let t := stateOf (irqCall s) s
    t.pc = 0x8000 ∧ t.mode = .faulted .illegal ∧ refusesFaulted (step t) = true := by decide

/-- Fuel runs out: `run` "never returns" on a self loop (DR10). -/
theorem test_run_out_of_fuel :
    (run 2 (Vec.start { at0 := 0x0200#16, bytes := [0x4C, 0x00, 0x02], pc' := 0 })).isNone = true := by decide

/-! ## Interrupts and reset (IR1 to IR8, RS1 of spec 95) -/

/-- PC = 0x1234, and the vectors NMI 0x9000, RESET 0x0200, IRQ 0x8000. -/
def beforeInterrupt (sp : Byte) (p : Nat) : State :=
  Vec.start { at0 := 0x1234#16, bytes := [], sp := sp, p := p,
              mem := [(0xFFFB#16, 0x90), (0xFFFD#16, 0x02), (0xFFFF#16, 0x80)], pc' := 0 }

/-- What an interrupt call leaves: the pushes in order, S, P and PC. -/
def entered (r : Result) (pushes : List (Addr × Byte)) (sp : Byte) (p : Nat) (pc : Addr) : Bool :=
  match r with
  | .next t => writesOf t.bus.calls == pushes && t.sp == sp && t.p == flagsOf p && t.pc == pc
  | _ => false

/-- IR1 and IR5. -/
theorem test_nmi :
    (entered (nmiCall (beforeInterrupt 0xFF 0b001001)) [(0x01FF, 0x12), (0x01FE, 0x34), (0x01FD, 0x29)] 0xFC 0b001101 0x9000 &&
      entered (nmiCall (beforeInterrupt 0xFF 0b000100)) [(0x01FF, 0x12), (0x01FE, 0x34), (0x01FD, 0x24)] 0xFC 0b000100 0x9000)
      = true := by decide

/-- IR2, IR3 and IR4. -/
theorem test_irq :
    answers (irqCall (beforeInterrupt 0xFF 0b000100)) (beforeInterrupt 0xFF 0b000100) = true ∧
    (entered (irqCall (beforeInterrupt 0xFF 0b100010)) [(0x01FF, 0x12), (0x01FE, 0x34), (0x01FD, 0xA2)] 0xFC 0b100110 0x8000 &&
      entered (irqCall (beforeInterrupt 0x01 0)) [(0x0101, 0x12), (0x0100, 0x34), (0x01FF, 0x20)] 0xFE 0b000100 0x8000)
      = true := by decide

/-- RS1. -/
theorem test_reset_call :
    let t := resetCall { beforeInterrupt 0x42 0b111011 with ticks := 3 }
    t.pc = 0x0200 ∧ t.p.i = true ∧ t.ticks = 0 ∧ t.mode = .reset ∧ t.bus.calls = [.read 0xFFFD, .read 0xFFFC] := by decide

/-- S4: setVector(RESET, 0xABCD) writes CD and then AB, and getVector gives it back. -/
theorem test_vector_accessors :
    let t := setVector .reset 0xABCD (beforeInterrupt 0xFF 0)
    writesOf t.bus.calls = [(0xFFFC, 0xCD), (0xFFFD, 0xAB)] ∧ (getVector .reset t).1 = 0xABCD := by decide

/-- A mapped address answers from the host's queue, and the array keeps its own byte (20 R41, R42). -/
theorem test_mapped_address :
    let s := (beforeInterrupt 0xFF 0).configureBus [⟨0xD000, 16⟩] [0x77, 0x78] []
    (s.busRead 0xD00F).1 = 0x77 ∧ ((s.busRead 0xD000).2.busRead 0xD000).1 = 0x78 ∧ (s.busRead 0xD010).1 = 0x00 ∧
    (s.busWrite 0xD000 0x55).bus.mem = s.bus.mem ∧ writesOf (s.busWrite 0xD000 0x55).bus.calls = [(0xD000, 0x55)] := by
  decide

/-- 10 R24, R34: bit 5 reads as 1 whatever the host writes. -/
theorem test_host_register_write :
    ((beforeInterrupt 0xFF 0).writeRegisters ⟨1, 2, 3, 4, 0x81, 0x5678⟩).registers = ⟨1, 2, 3, 4, 0xA1, 0x5678⟩ := by decide

/-! ## The disassembler (spec 95, section 5) -/

/-- The text and length at an address, and how many Bus reads it took. -/
def listed (a : Addr) (bytes : List Byte) (text : List Char) (length : Nat) : Bool :=
  let d := disassemble a (Vec.start { at0 := a, bytes := bytes, pc' := 0 })
  d.1.1 == text && d.1.2 == length && d.2.bus.calls.length == length

theorem test_disassemble_one_and_two_bytes :
    (listed 0x0200 [0xA9, 0x41] ['L', 'D', 'A', ' ', '#', '$', '4', '1'] 2 &&
      listed 0x0200 [0xD0, 0xFE] ['B', 'N', 'E', ' ', '$', '0', '2', '0', '0'] 2 &&
      listed 0x0200 [0xF0, 0x80] ['B', 'E', 'Q', ' ', '$', '0', '1', '8', '2'] 2 &&
      listed 0x0200 [0x0A] ['A', 'S', 'L', ' ', 'A'] 1 && listed 0x0200 [0x00, 0xFF] ['B', 'R', 'K'] 1 &&
      listed 0x0200 [0xB1, 0x20] ['L', 'D', 'A', ' ', '(', '$', '2', '0', ')', ',', 'Y'] 2 &&
      listed 0x0200 [0xA1, 0x44] ['L', 'D', 'A', ' ', '(', '$', '4', '4', ',', 'X', ')'] 2 &&
      listed 0x0200 [0xB6, 0x10] ['L', 'D', 'X', ' ', '$', '1', '0', ',', 'Y'] 2) = true := by decide

theorem test_disassemble_three_bytes_and_illegal :
    (listed 0x0200 [0x6C, 0xFF, 0x12] ['J', 'M', 'P', ' ', '(', '$', '1', '2', 'F', 'F', ')'] 3 &&
      listed 0x0200 [0x9D, 0x34, 0x12] ['S', 'T', 'A', ' ', '$', '1', '2', '3', '4', ',', 'X'] 3 &&
      listed 0x0200 [0x20, 0xEE, 0xFF] ['J', 'S', 'R', ' ', '$', 'F', 'F', 'E', 'E'] 3 &&
      listed 0xFFFF [0xAD, 0x00, 0x30] ['L', 'D', 'A', ' ', '$', '3', '0', '0', '0'] 3 &&
      listed 0x0200 [0x02] ['?', '?', '?'] 1 && listed 0xFFFF [0xFF] ['?', '?', '?'] 1) = true := by decide

/-- The listing of program P1 from 0x0200: each start is the previous start plus its length (47 R225). -/
theorem test_listing_of_p1 :
    (listing 8 0x0200 (State.placeBytes [0xA9, 0x41, 0xAA, 0x8A, 0x20, 0xEE, 0xFF, 0xE8, 0xE0, 0x5B, 0xD0, 0xF7, 0x00] 0x0200
      (beforeInterrupt 0xFF 0))).1.map (·.1) =
      [0x0200, 0x0202, 0x0203, 0x0204, 0x0207, 0x0208, 0x020A, 0x020C] := by decide

/-! ## Witnesses: for every obligation with hypotheses, states and operands that meet all of them -/

/-- A plain state: S = 0xFF, PC = 0x0200, flat memory with IRQ vector 0x8000, and a hook queue. -/
def plain (hooks : List HookReply) : State :=
  { Vec.start { at0 := 0x0200#16, bytes := [0xBD, 0xFF, 0x12], mem := [(0xFFFF#16, 0x80)], pc' := 0 } with
    bus := { (Vec.start { at0 := 0x0200#16, bytes := [0xBD, 0xFF, 0x12], mem := [(0xFFFF#16, 0x80)], pc' := 0 }).bus with
      hooks := hooks } }

/-- The same with the IRQ vector 0x0000. -/
def plainNoVector (hooks : List HookReply) : State := (plain hooks).poke 0xFFFF#16 0x00

/-- A host that maps every address from 0xD000 to 0xD00F. -/
def mappedHost : State := (plain []).configureBus [⟨0xD000, 16⟩] [] []

/-- What an instruction's exec answers here, as a yes or no. -/
def completes (i : Instr) (s : State) : Bool :=
  match exec i s with
  | .next _ => true
  | .fault _ => false
  | .refused _ => false

theorem witness_EncodeOfDecodeIsTheBytes : decode [0xFE, 0xFF, 0xFF, 0x01] = .ok (.incAbsX 0xFFFF, [0x01]) := by decide

/-- Both clauses, at the two ends of the reach. -/
theorem witness_BranchOperandReachesItsTarget :
    branchOperand 0x0200 0x0281 = some 0x7F ∧ branchOperand 0x0200 0x0182 = some 0x80 ∧
    branchOperand 0x0200 0x0282 = none ∧ branchOperand 0x0200 0x0181 = none := by decide

theorem witness_ReferenceBusIsAByteArray : (plain []).bus.mapped = [] ∧ (plain []).bus.hooks = [] ∧ (plain []).bus.mem.wf = true := by
  decide

theorem witness_CanonicalMemoryIsItsReads :
    Memory.wf [(0, 1), (0xFFFF, 0xFF)] = true ∧ ∀ a : Addr, Memory.read [(0, 1)] a.toNat = Memory.read [(0, 1)] a.toNat :=
  ⟨by decide, fun _ => rfl⟩

/-- At S = 0x00, where S wraps, and the second clause's S. -/
theorem witness_PushThenPullReturnsTheByte :
    let s := (plain []).setSp 0x00#8
    s.bus.mem.wf = true ∧ s.bus.isMapped (0x0100#16 + zext16 s.sp) = false ∧ ((plain []).setSp 0x01#8).sp = 0x01#8 := by decide

/-- The IRQ vector, whose high byte is at 0xFFFF, on a host that maps other addresses. -/
theorem witness_VectorRoundTrip :
    mappedHost.bus.mem.wf = true ∧ mappedHost.bus.isMapped Vector.irq.addr = false ∧
    mappedHost.bus.isMapped (Vector.irq.addr + 1#16) = false ∧ mappedHost.bus.isMapped 0xD00F#16 = true := by decide

/-- At the pointer 0xFF, whose second byte is at 0x00, in both clauses. -/
theorem witness_PointerEffectiveAddresses :
    let s := (plain []).setX 0x01#8
    s.bus.isMapped (BitVec.ofNat 16 ((0xFE + s.x.toNat) % 256)) = false ∧
    s.bus.isMapped (BitVec.ofNat 16 ((0xFE + s.x.toNat + 1) % 256)) = false ∧
    s.bus.isMapped (BitVec.ofNat 16 0xFF) = false ∧ s.bus.isMapped (BitVec.ofNat 16 ((0xFF + 1) % 256)) = false := by decide

theorem witness_OperandReadFrame :
    0xD010#16 ∈ (Instr.ldaAbs 0xD010#16).effective mappedHost ∧ mappedHost.bus.isMapped 0xD010#16 = false := by decide

theorem witness_EveryInstructionCompletes :
    (plain []).bus.nextReply.answer ≠ .halt ∧ (plain [⟨.value 0xFFFF, []⟩]).bus.nextReply.answer ≠ .halt ∧
    Instr.rti.mnemonic ≠ .jsr ∧ Instr.rti.mnemonic ≠ .brk := by decide

/-- A JSR and a BRK that halt. -/
theorem witness_OnlyHookHaltStopsAnInstruction :
    let s := plainNoVector [⟨.halt, []⟩]
    exec (.jsr 0x4000) s = .fault .hostHalt ∧ exec .brk s = .fault .hostHalt ∧ s.bus.nextReply.answer = .halt ∧
    (s.read16 0xFFFE#16).1 = 0#16 ∧ s.params.brkZeroHook = true :=
  ⟨rfl, rfl, by decide, by decide, by decide⟩

/-- A page-crossing load and a branch taken to another page complete. -/
theorem witness_CycleCountOfEveryInstruction :
    (completes (.ldaAbsX 0x12FF) ((plain []).setX 1#8) && completes (.bne 0x80) (plain [])) = true := by decide

/-- The instruction answers a next state in which this field has another value. -/
def changes {α : Type} [DecidableEq α] (f : State → α) (i : Instr) (s : State) : Bool :=
  match exec i s with
  | .next t => decide (f t ≠ f s)
  | .fault _ => false
  | .refused _ => false

/-- One witness for each register. -/
theorem witness_OnlyListedInstructionsWriteARegister :
    changes State.a (.ldaImm 1) (plain []) = true ∧ changes State.x (.ldxImm 1) (plain []) = true ∧
    changes State.y .iny (plain []) = true ∧ changes State.sp .txs (plain []) = true := by decide

/-- One witness for each flag. -/
theorem witness_OnlyListedInstructionsWriteAFlag :
    changes (·.p.c) .sec (plain []) = true ∧ changes (·.p.z) (.ldaImm 0) (plain []) = true ∧
    changes (·.p.n) .dex (plain []) = true ∧ changes (·.p.i) .brk (plain []) = true ∧
    changes (·.p.d) .sed (plain []) = true ∧ changes (·.p.v) (.adcImm 0x80) ((plain []).setA 0x80#8) = true := by decide

/-- Bit 4 of P, a free value after PLP: for some register bit 4 it changes. -/
theorem witness_OnlyListedInstructionsWriteAFlag_bit4 :
    ∃ s t : State, exec .plp s = .next t ∧ t.p.b ≠ s.p.b := by
  refine ⟨(plain []).setP { (plain []).p with b := !Config.freeBit 0 }, _, rfl, ?_⟩
  show Config.freeBit 0 ≠ !Config.freeBit 0
  simp

theorem witness_MemoryChangesOnlyWhereStored :
    ((plain []).bus.nextReply.writes = []) ∧ completes (.staAbs 0x0300) (plain []) = true ∧ completes .brk (plain []) = true := by
  decide

theorem witness_PcStaysPastTheInstruction :
    completes (.beq 0x10) (plain []) = true ∧
    (Instr.beq 0x10).mnemonic ∉ [Mnemonic.jmp, .jsr, .rts, .rti, .brk] ∧
    (Instr.beq 0x10).mnemonic.condition (plain []).p = false := by decide

/-- One witness for each class. -/
theorem witness_BusCallsOfEachOperandClass :
    0x0010#16 ∈ (Instr.ldaZp 0x10).effective (plain []) ∧ (Instr.ldaZp 0x10).mnemonic.isRead = true ∧
    0xFFFF#16 ∈ (Instr.staAbs 0xFFFF).effective (plain []) ∧
    (Instr.staAbs 0xFFFF).mnemonic.storedRegister (plain []) = some (plain []).a ∧
    0x0000#16 ∈ (Instr.rorZpX 0x00).effective (plain []) ∧ (Instr.rorZpX 0x00).mnemonic.isRmw = true ∧
    (Instr.adcImm 1).mode = .imm ∧ Instr.rolAcc.mode = .acc := by decide

theorem witness_LoadResult :
    (Instr.ldaIndY 0xFF).mnemonic = .lda ∧ (Instr.ldxZpY 0xFF).mnemonic = .ldx ∧ (Instr.ldyAbsX 0xFFFF).mnemonic = .ldy := by decide

/-- Plain and mapped EA. -/
theorem witness_StoreResult :
    mappedHost.bus.mem.wf = true ∧ (Instr.staAbs 0xD00F).mnemonic.storedRegister mappedHost = some mappedHost.a ∧
    mappedHost.bus.isMapped 0xD00F = true ∧ (Instr.stxAbs 0xD010).mnemonic.storedRegister mappedHost = some mappedHost.x ∧
    mappedHost.bus.isMapped 0xD010 = false := by decide

/-- The smallest and the largest operands: 00 and 99. -/
theorem witness_DecimalAddition : isBcd 0x00 = true ∧ isBcd 0x99 = true := by decide

theorem witness_DecimalSubtraction : isBcd 0x00 = true ∧ isBcd 0x99 = true := by decide

theorem witness_AddAndSubtractResult : (Instr.adcAbsY 0xFFFF).mnemonic = .adc ∧ (Instr.sbcImm 0xFF).mnemonic = .sbc := by decide

theorem witness_LogicResult :
    (Instr.andImm 0).mnemonic = .and ∧ (Instr.oraZp 0xFF).mnemonic = .ora ∧ (Instr.eorIndX 0xFF).mnemonic = .eor := by decide

theorem witness_CompareAndBitResult :
    (Instr.cmpImm 0).mnemonic = .cmp ∧ (Instr.cpxZp 0xFF).mnemonic = .cpx ∧ (Instr.cpyAbs 0).mnemonic = .cpy ∧
    (Instr.bitAbs 0xFFFF).mnemonic = .bit := by decide

/-- Plain and mapped EA. -/
theorem witness_ReadModifyWriteResult :
    mappedHost.bus.mem.wf = true ∧ (Instr.incAbs 0xD000).mnemonic.isRmw = true ∧ (Instr.incAbs 0xD000).mode ≠ .acc ∧
    mappedHost.bus.isMapped 0xD000 = true ∧ (Instr.lsrAbs 0xCFFF).mnemonic.isRmw = true ∧
    (Instr.lsrAbs 0xCFFF).mode ≠ .acc ∧ mappedHost.bus.isMapped 0xCFFF = false := by decide

theorem witness_AccumulatorShiftResult : Instr.aslAcc.mode = .acc ∧ Instr.rorAcc.mode = .acc := by decide

/-- A branch taken and one not taken, at the ends of the reach. -/
theorem witness_BranchResult :
    (Instr.bne 0x80).mnemonic.isBranch = true ∧ (Instr.bne 0x80).mnemonic.condition (plain []).p = true ∧
    (Instr.beq 0x7F).mnemonic.isBranch = true ∧ (Instr.beq 0x7F).mnemonic.condition (plain []).p = false := by decide

/-- The pointer at 0x30FF under both values of JMP_IND_PAGE_WRAP. -/
theorem witness_JumpResult :
    (plain []).params.jmpIndPageWrap = true ∧
    (State.params { plain [] with params := ⟨false, true, false⟩ }).jmpIndPageWrap = false ∧
    (plain []).bus.isMapped 0x30FF = false ∧ (plain []).bus.isMapped 0x3000 = false ∧
    (plain []).bus.isMapped 0x3100 = false := by decide

/-- At S = 0x00, where the second byte goes to 0x01FF. -/
theorem witness_JsrOrdinaryCall :
    let s := (plain []).setSp 0x00#8
    s.bus.mem.wf = true ∧ s.bus.nextReply.answer = .value 0#16 ∧ s.bus.isMapped (stackAddr s.sp) = false ∧
    s.bus.isMapped (stackAddr (s.sp - 1#8)) = false := by decide

theorem witness_JsrAbsorbedByTheHook : (plain [⟨.value 0x0001, []⟩]).bus.nextReply.answer = .value 0x0001 ∧ 0x0001#16 ≠ 0#16 := by
  decide

theorem witness_RtsResult :
    let s := (plain []).setSp 0xFE#8
    s.bus.isMapped (stackAddr (s.sp + 1#8)) = false ∧ s.bus.isMapped (stackAddr (s.sp + 2#8)) = false := by decide

theorem witness_JsrThenRtsReturns :
    let s := (plain []).setSp 0x00#8
    s.bus.mem.wf = true ∧ s.bus.nextReply = ⟨.value 0#16, []⟩ ∧ s.bus.isMapped (stackAddr s.sp) = false ∧
    s.bus.isMapped (stackAddr (s.sp - 1#8)) = false := by decide

/-- A nonzero vector; and a zero vector with BRK_ZERO_HOOK false. -/
theorem witness_BrkOrdinaryEntry :
    let s := (plain []).setSp 0x01#8
    let t : State := { plainNoVector [] with params := ⟨true, false, false⟩ }
    s.bus.mem.wf = true ∧ t.bus.mem.wf = true ∧ s.bus.isMapped 0xFFFE#16 = false ∧ s.bus.isMapped 0xFFFF#16 = false ∧
    s.bus.isMapped (stackAddr s.sp) = false ∧ s.bus.isMapped (stackAddr (s.sp - 1#8)) = false ∧
    s.bus.isMapped (stackAddr (s.sp - 2#8)) = false ∧ word (s.peek 0xFFFF#16) (s.peek 0xFFFE#16) ≠ 0#16 ∧
    word (t.peek 0xFFFF#16) (t.peek 0xFFFE#16) = 0#16 ∧ t.params.brkZeroHook = false := by decide

/-- A nonzero answer, and the answer 0. -/
theorem witness_BrkThroughTheHook :
    let s := plainNoVector [⟨.value 0xFFFF, []⟩]
    let t := plainNoVector []
    s.bus.isMapped 0xFFFE#16 = false ∧ s.bus.isMapped 0xFFFF#16 = false ∧
    word (s.peek 0xFFFF#16) (s.peek 0xFFFE#16) = 0#16 ∧ s.params.brkZeroHook = true ∧
    s.bus.nextReply.answer = .value 0xFFFF#16 ∧ 0xFFFF#16 ≠ 0#16 ∧
    word (t.peek 0xFFFF#16) (t.peek 0xFFFE#16) = 0#16 ∧ t.bus.nextReply.answer = .value 0#16 := by decide

theorem witness_RtiResult :
    let s := (plain []).setSp 0xFE#8
    s.bus.isMapped (stackAddr (s.sp + 1#8)) = false ∧ s.bus.isMapped (stackAddr (s.sp + 2#8)) = false ∧
    s.bus.isMapped (stackAddr (s.sp + 3#8)) = false := by decide

theorem witness_PushInstructionResult :
    let s := (plain []).setSp 0x00#8
    s.bus.mem.wf = true ∧ s.bus.isMapped (stackAddr s.sp) = false := by decide

theorem witness_PullInstructionResult : (plain []).bus.isMapped (stackAddr ((plain []).sp + 1#8)) = false := by decide

/-- An instruction that completes, and one (JSR with a halting hook) that faults. -/
theorem witness_StepRunsTheDecodedInstruction :
    let s := plain []
    let u := (plain [⟨.halt, []⟩]).placeBytes [0x20, 0xEE, 0xFF] 0x0200
    s.params.strictStack = false ∧ (s.mode = .reset ∨ s.mode = .executing) ∧ s.ticks = 0 ∧ s.bus.isMapped s.pc = false ∧
    s.bus.isMapped (s.pc + 1#16) = false ∧ s.bus.isMapped (s.pc + 2#16) = false ∧
    decode [s.peek s.pc, s.peek (s.pc + 1#16), s.peek (s.pc + 2#16)] = .ok (.ldaAbsX 0x12FF, []) ∧
    completes (.ldaAbsX 0x12FF) (s.setPc 0x0203) = true ∧
    decode [u.peek u.pc, u.peek (u.pc + 1#16), u.peek (u.pc + 2#16)] = .ok (.jsr 0xFFEE, []) ∧
    completes (.jsr 0xFFEE) (u.setPc 0x0203) = false := by decide

/-- At 0xFFFF, where PC + 1 wraps; and from a mapped address. -/
theorem witness_IllegalOpcodeStep :
    let s := Vec.start { at0 := 0xFFFF#16, bytes := [0xFF], pc' := 0 }
    let u := ((plain []).configureBus [⟨0x0200, 1⟩] [0x02] [])
    s.params.strictStack = false ∧ (s.mode = .reset ∨ s.mode = .executing) ∧ s.ticks = 0 ∧ (s.busRead s.pc).1 ∈ illegalBytes ∧
    u.params.strictStack = false ∧ (u.mode = .reset ∨ u.mode = .executing) ∧ u.ticks = 0 ∧
    (u.busRead u.pc).1 ∈ illegalBytes := by decide

theorem witness_TickCountsDownAndStepFinishes :
    let s := (plain []).setTicks 1
    s.params.strictStack = false ∧ (s.mode = .reset ∨ s.mode = .executing) ∧ 0 < s.ticks ∧
    answers (step s) { s with ticks := 0, status := .ok } = true := by decide

/-- The clauses exclude each other by STRICT_STACK; the third has the first two as its answers. -/
theorem witness_RefusedExactlyWhenFaultedOrStrict :
    let s : State := { plain [] with params := ⟨true, true, true⟩ }
    let t := (plain []).setMode (.faulted .illegal)
    s.params.strictStack = true ∧ t.params.strictStack = false ∧ t.mode = .faulted .illegal ∧
    step s = .refused .strictStack ∧ step t = .refused .faultedMode :=
  ⟨by decide, by decide, by decide, rfl, rfl⟩

theorem witness_RunNeverReturnsOk :
    (run 2 (Vec.start { at0 := 0x0200#16, bytes := [0xEA, 0x02], pc' := 0 })).isSome = true := by decide

/-- At S = 0x01, where the pushes wrap, with I = 1 and with I = 0. -/
theorem witness_InterruptEntry :
    let s := beforeInterrupt 0x01 0
    s.bus.mem.wf = true ∧ s.params.strictStack = false ∧ s.bus.isMapped (stackAddr s.sp) = false ∧
    s.bus.isMapped (stackAddr (s.sp - 1#8)) = false ∧ s.bus.isMapped (stackAddr (s.sp - 2#8)) = false ∧ s.p.i = false ∧
    (beforeInterrupt 0x01 0b000100).p.i = true ∧ s.bus.isMapped 0xFFFE#16 = false ∧ s.bus.isMapped 0xFFFF#16 = false ∧
    s.bus.isMapped 0xFFFA#16 = false ∧ s.bus.isMapped 0xFFFB#16 = false := by decide

theorem witness_InterruptThenRtiResumes :
    let s := beforeInterrupt 0x01 0
    s.bus.mem.wf = true ∧ s.params.strictStack = false ∧ s.bus.isMapped (stackAddr s.sp) = false ∧
    s.bus.isMapped (stackAddr (s.sp - 1#8)) = false ∧ s.bus.isMapped (stackAddr (s.sp - 2#8)) = false ∧ s.p.i = false := by decide

theorem witness_ResetCallResult : (plain []).bus.isMapped 0xFFFC#16 = false ∧ (plain []).bus.isMapped 0xFFFD#16 = false := by decide

/-- A legal opcode and an illegal one. -/
theorem witness_DisassemblyAgreesWithDecoding :
    let s := plain []
    s.bus.isMapped 0x0200 = false ∧ s.bus.isMapped (0x0200 + 1#16) = false ∧ s.bus.isMapped (0x0200 + 2#16) = false ∧
    decode [s.peek 0x0200, s.peek (0x0200 + 1#16), s.peek (0x0200 + 2#16)] = .ok (.ldaAbsX 0x12FF, []) ∧
    s.peek 0x0201 ∈ illegalBytes := by decide

/-- A state with 6 cycles owed, the bound itself. -/
theorem witness_inv : ((plain []).setTicks 6).Inv :=
  ⟨by decide, by decide, by decide, by decide⟩

theorem witness_StepKeepsTheInvariant : (State.Inv (plain [])) ∧ (match step (plain []) with | .next _ => true | _ => false) = true :=
  ⟨⟨by decide, by decide, by decide, by decide⟩, by decide⟩

theorem witness_EveryHostCallKeepsTheInvariant :
    (State.Inv (plain [])) ∧ perform (.writeMemory 0xFFFF 0x12) (plain []) = .next ((plain []).poke 0xFFFF 0x12) :=
  ⟨⟨by decide, by decide, by decide, by decide⟩, rfl⟩

/-- A host call that stays in the faulted mode, and reset(), which leaves it. -/
theorem witness_OnlyResetLeavesAFaultedMode :
    let s := (plain []).setMode (.faulted .illegal)
    s.mode = .faulted .illegal ∧ perform (.writeMemory 0 1) s = .next (s.poke 0 1) ∧ perform .reset s = .next (resetCall s) ∧
    HostCall.writeMemory 0 1 ≠ .reset :=
  ⟨by decide, rfl, rfl, by decide⟩

end Sys2Proof.Tests
end

/-! # Proofs of the obligations -/

/-! ## A push and the pull after it (00 R11, 10 R26, R27) -/

section
namespace Sys2Proof.Machine

variable (s : State)

/-- The stack address in the spelling of the obligations. -/
theorem stackAddr_eq_ofNat (x : Byte) : stackAddr x = BitVec.ofNat 16 (256 + x.toNat) := by
  rw [← stackAddr_toNat, BitVec.ofNat_toNat, BitVec.setWidth_eq]

theorem State.push_sp_toNat (v : Byte) : (s.push v).sp.toNat = (s.sp.toNat + 255) % 256 := by
  rw [State.push_sp, BitVec.toNat_sub, Nat.add_comm]
  rfl

theorem State.push_sameMemoryExcept (v : Byte) : s.SameMemoryExcept [stackAddr s.sp] (s.push v) :=
  fun _ ha => s.push_peek_other (List.ne_of_not_mem_cons ha) v

theorem State.push_pull_sp (v : Byte) : (s.push v).pull.2.sp = s.sp := by
  rw [State.pull_sp, State.push_sp, BitVec.sub_add_cancel]

/-- The pull reads at the address the push wrote to, since S is there again. -/
theorem State.push_pull_value (hm : s.bus.mem.wf = true) (h : s.bus.isMapped (stackAddr s.sp) = false) (v : Byte) :
    (s.push v).pull.1 = v := by
  have hsp : (s.push v).sp + 1#8 = s.sp := by rw [State.push_sp, BitVec.sub_add_cancel]
  rw [State.pull_plain _ (by rw [hsp, State.push_isMapped, h]), hsp, s.push_peek_same h hm]

theorem State.push_pull_sameRegisters (v : Byte) : s.SameRegisters (s.push v).pull.2 where
  a := by simp
  x := by simp
  y := by simp
  sp := s.push_pull_sp v
  pc := by simp
  p := by simp
  mode := by simp
  status := by simp
  params := by simp

theorem State.push_push_push_sp (u v w : Byte) : (((s.push u).push v).push w).sp = s.sp - 1#8 - 1#8 - 1#8 := by
  simp only [State.push_sp]

theorem State.push_push_push_calls (u v w : Byte) :
    (((s.push u).push v).push w).bus.calls =
      .write (stackAddr (s.sp - 1#8 - 1#8)) w :: .write (stackAddr (s.sp - 1#8)) v ::
        .write (stackAddr s.sp) u :: s.bus.calls := by
  simp only [State.push_bus_calls, State.push_sp]

end Sys2Proof.Machine

namespace Sys2Proof

open Sys2Proof.Machine

/-- Settles O9: the pull finds S where the push had it, and the third of three pushes from S = 0x01 is past the wrap. -/
theorem pushThenPullReturnsTheByte : Obligations.PushThenPullReturnsTheByte := by
  unfold Obligations.PushThenPullReturnsTheByte
  constructor
  · intro s v hm (h : s.bus.isMapped (stackAddr s.sp) = false)
    rw [← stackAddr_eq_ofNat]
    exact ⟨s.push_sp_toNat v, s.push_peek_same h hm v, s.push_sameMemoryExcept v,
      s.push_pull_value hm h v, s.push_pull_sp v, s.push_pull_sameRegisters v⟩
  · intro s u v w hs
    rw [State.push_push_push_sp, State.push_push_push_calls, hs]
    exact ⟨by decide, rfl⟩

end Sys2Proof
end

/-! ## What an instruction does to the registers (10 R21, R28) -/

section
namespace Sys2Proof

open Sys2Proof.Machine

/-- The operation of alu_flags that an instruction's rule names (42 R120-R130, 43 R146-R160, 44 R171-R174, 46 R202). -/
def Mnemonic.aluOp? (n : Mnemonic) : Option AluOp :=
  match n with
  | .lda | .ldx | .ldy | .tax | .tay | .txa | .tya | .tsx | .pla => some .pass
  | .adc => some .add
  | .sbc => some .sub
  | .and => some .and
  | .ora => some .or
  | .eor => some .xor
  | .bit => some .bit
  | .cmp | .cpx | .cpy => some .cmp
  | .inc | .inx | .iny => some .inc
  | .dec | .dex | .dey => some .dec
  | .asl => some .asl
  | .lsr => some .lsr
  | .rol => some .rol
  | .ror => some .ror
  | _ => none

/-- P after one of the seven flag instructions (46 R204-R210). -/
def Mnemonic.flagsSet? (n : Mnemonic) (p : Flags) : Option Flags :=
  match n with
  | .clc => some { p with c := false }
  | .sec => some { p with c := true }
  | .cli => some { p with i := false }
  | .sei => some { p with i := true }
  | .cld => some { p with d := false }
  | .sed => some { p with d := true }
  | .clv => some { p with v := false }
  | _ => none

/-- The ways in which an instruction that gives a next state changes the registers, each with the instructions it stands for. -/
inductive Instr.Effect (i : Instr) (s t : State) : Prop
  /-- A and P from the alu -/
  | acc {f : AluOp} (op : i.mnemonic.aluOp? = some f)
      (names : i.mnemonic ∈ [Mnemonic.lda, .txa, .tya, .adc, .sbc, .and, .ora, .eor] ∨ i.mode = .acc)
      (regs : ∃ m, (s.accOp f m).SameRegisters t)
  /-- X and P from the alu -/
  | x {f : AluOp} (op : i.mnemonic.aluOp? = some f) (names : i.mnemonic ∈ [Mnemonic.ldx, .tax, .tsx, .inx, .dex])
      (regs : ∃ m, (s.xOp f m).SameRegisters t)
  /-- Y and P from the alu -/
  | y {f : AluOp} (op : i.mnemonic.aluOp? = some f) (names : i.mnemonic ∈ [Mnemonic.ldy, .tay, .iny, .dey])
      (regs : ∃ m, (s.yOp f m).SameRegisters t)
  /-- P alone from the alu: BIT, the compares, and read-modify-write in memory -/
  | test {f : AluOp} (op : i.mnemonic.aluOp? = some f) (regs : ∃ a m, (s.testOp f a m).SameRegisters t)
  /-- one flag set or cleared -/
  | flag {p : Flags} (result : i.mnemonic.flagsSet? s.p = some p) (regs : (s.setP p).SameRegisters t)
  /-- S alone -/
  | stack (names : i.mnemonic ∈ [Mnemonic.txs, .pha, .php]) (regs : ∃ v, (s.setSp v).SameRegisters t)
  /-- PLA: S, and A and P from the alu -/
  | pullA (name : i.mnemonic = .pla) (regs : ∃ v m, ((s.setSp v).accOp .pass m).SameRegisters t)
  /-- PLP: S and the whole of P -/
  | pullP (name : i.mnemonic = .plp) (regs : ∃ v p, ((s.setSp v).setP p).SameRegisters t)
  /-- PC alone: JMP and the taken branches -/
  | jump (names : i.mnemonic = .jmp ∨ i.mnemonic.condition s.p = true) (regs : ∃ w, (s.setPc w).SameRegisters t)
  /-- S and PC -/
  | subroutine (names : i.mnemonic ∈ [Mnemonic.jsr, .rts]) (regs : ∃ v w, ((s.setSp v).setPc w).SameRegisters t)
  /-- RTI: S, PC and the whole of P -/
  | exceptionReturn (name : i.mnemonic = .rti) (regs : ∃ v w p, (((s.setSp v).setPc w).setP p).SameRegisters t)
  /-- BRK: S, PC and, unless the hook absorbed it, the flag I -/
  | exceptionEntry (name : i.mnemonic = .brk)
      (regs : ∃ v w b, (((s.setSp v).setPc w).setP { s.p with i := b }).SameRegisters t)
  /-- none of them: stores, branches not taken, NOP -/
  | nothing (regs : s.SameRegisters t)

namespace Machine

variable {s t u : State} {op : Byte}

theorem State.SameRegisters.trans (h : s.SameRegisters u) (h' : u.SameRegisters t) : s.SameRegisters t where
  a := h'.a.trans h.a
  x := h'.x.trans h.x
  y := h'.y.trans h.y
  sp := h'.sp.trans h.sp
  pc := h'.pc.trans h.pc
  p := h'.p.trans h.p
  mode := h'.mode.trans h.mode
  status := h'.status.trans h.status
  params := h'.params.trans h.params

/-! Two states that agree on the registers agree after the same register operation. -/

theorem State.SameRegisters.accOp (h : s.SameRegisters u) (f : AluOp) (m : Byte) :
    (s.accOp f m).SameRegisters (u.accOp f m) := by
  constructor <;> simp [h.a, h.x, h.y, h.sp, h.pc, h.p, h.mode, h.status, h.params]

theorem State.SameRegisters.xOp (h : s.SameRegisters u) (f : AluOp) (m : Byte) :
    (s.xOp f m).SameRegisters (u.xOp f m) := by
  constructor <;> simp [h.a, h.y, h.sp, h.pc, h.p, h.mode, h.status, h.params]

theorem State.SameRegisters.yOp (h : s.SameRegisters u) (f : AluOp) (m : Byte) :
    (s.yOp f m).SameRegisters (u.yOp f m) := by
  constructor <;> simp [h.a, h.x, h.sp, h.pc, h.p, h.mode, h.status, h.params]

theorem State.SameRegisters.testOp (h : s.SameRegisters u) (f : AluOp) (a m : Byte) :
    (s.testOp f a m).SameRegisters (u.testOp f a m) := by
  constructor <;> simp [h.a, h.x, h.y, h.sp, h.pc, h.p, h.mode, h.status, h.params]

/-! The registers after each shape of Operands.lean. -/

theorem onImmediate_regs {use : Byte → State → State} {m : Byte} (h : onImmediate op use m s = .next t) :
    (use m s).SameRegisters t := by
  cases h
  constructor <;> rfl

theorem onImplied_regs {use : State → State} (h : onImplied op use s = .next t) : (use s).SameRegisters t := by
  cases h
  constructor <;> rfl

/-- The Bus reads of an operand leave the registers to `use` as they were (41 R115). -/
theorem onRead_regs {use : Byte → State → State} {r : MemRef} (h : onRead op use r s = .next t) :
    ∃ m u, s.SameRegisters u ∧ (use m u).SameRegisters t := by
  rw [onRead_eq] at h
  cases h
  refine ⟨_, _, ?_, by constructor <;> rfl⟩
  constructor <;> simp

theorem onRead_accOp_regs {f : AluOp} {r : MemRef} (h : onRead op (State.accOp f) r s = .next t) :
    ∃ m, (s.accOp f m).SameRegisters t := by
  obtain ⟨m, u, hu, ht⟩ := onRead_regs h
  exact ⟨m, (hu.accOp f m).trans ht⟩

theorem onRead_xOp_regs {f : AluOp} {r : MemRef} (h : onRead op (State.xOp f) r s = .next t) :
    ∃ m, (s.xOp f m).SameRegisters t := by
  obtain ⟨m, u, hu, ht⟩ := onRead_regs h
  exact ⟨m, (hu.xOp f m).trans ht⟩

theorem onRead_yOp_regs {f : AluOp} {r : MemRef} (h : onRead op (State.yOp f) r s = .next t) :
    ∃ m, (s.yOp f m).SameRegisters t := by
  obtain ⟨m, u, hu, ht⟩ := onRead_regs h
  exact ⟨m, (hu.yOp f m).trans ht⟩

theorem onRead_testOp_regs {f : AluOp} {reg : State → Byte} {r : MemRef}
    (h : onRead op (fun m u => u.testOp f (reg u) m) r s = .next t) : ∃ a m, (s.testOp f a m).SameRegisters t := by
  obtain ⟨m, u, hu, ht⟩ := onRead_regs h
  exact ⟨reg u, m, (hu.testOp f (reg u) m).trans ht⟩

theorem onModify_regs {f : AluOp} {r : MemRef} (h : onModify op f r s = .next t) :
    ∃ a m, (s.testOp f a m).SameRegisters t := by
  rw [onModify_eq] at h
  cases h
  exact ⟨0#8, ((resolve r s).2.busRead (resolve r s).1.ea).1, by constructor <;> simp⟩

theorem onWrite_regs {value : State → Byte} {r : MemRef} (h : onWrite op value r s = .next t) : s.SameRegisters t := by
  rw [onWrite_eq] at h
  cases h
  constructor <;> simp

theorem onBranch_regs {cond : Flags → Bool} {b : Byte} (h : onBranch op cond b s = .next t) :
    (cond s.p = true ∧ (s.setPc (branchTarget s.pc b)).SameRegisters t) ∨ s.SameRegisters t := by
  rw [onBranch_eq] at h
  cases h
  cases hc : cond s.p with
  | true => exact .inl ⟨rfl, by constructor <;> rfl⟩
  | false => exact .inr (by constructor <;> rfl)

/-! The registers after the instructions that have a shape of their own. -/

theorem exec_jmpInd_regs {w : Addr} (h : exec (.jmpInd w) s = .next t) :
    (s.setPc (resolveIndirect w s).1).SameRegisters t := by
  cases h
  constructor <;> simp

/-- JSR: the hook resumed at an address, or the ordinary call pushed the return address (45 R190). -/
theorem exec_jsr_regs {w : Addr} (h : exec (.jsr w) s = .next t) :
    ∃ v u, ((s.setSp v).setPc u).SameRegisters t := by
  change execJsr w s = .next t at h
  unfold execJsr at h
  simp only at h
  split at h
  case h_1 _ resumed _ =>
    cases h
    exact ⟨s.sp, resumed, by constructor <;> simp⟩
  case h_2 => cases h
  case h_3 =>
    cases h
    exact ⟨s.sp - 2#8, w, by constructor <;> simp [State.callSubroutine]⟩

theorem exec_rts_regs (h : exec .rts s = .next t) :
    ((s.setSp (s.sp + 2#8)).setPc (s.pullWord.1 + 1#16)).SameRegisters t := by
  cases h
  constructor <;> simp

/-- The registers after an ordinary BRK, whatever the state it starts from did on the Bus (45 R193). -/
theorem State.breakTo_regs (h : s.SameRegisters u) (vec ret : Addr) (taken : Bool) :
    (((s.setSp (s.sp - 3#8)).setPc vec).setP { s.p with i := true }).SameRegisters
      ((u.breakTo vec ret).charge op false taken) := by
  constructor <;> simp [State.breakTo, h.a, h.x, h.y, h.sp, h.p, h.mode, h.status, h.params]

/-- BRK: the hook resumed at an address, or the ordinary entry set I, with the hook or without it (45 R193). -/
theorem exec_brk_regs (h : exec .brk s = .next t) :
    ∃ v w b, (((s.setSp v).setPc w).setP { s.p with i := b }).SameRegisters t := by
  change execBrk s = .next t at h
  unfold execBrk at h
  simp only at h
  split at h
  case isTrue =>
    split at h
    case h_1 _ resumed _ =>
      cases h
      exact ⟨s.sp, resumed, s.p.i, by constructor <;> simp⟩
    case h_2 => cases h
    case h_3 =>
      cases h
      exact ⟨_, _, true, State.breakTo_regs (by constructor <;> simp) _ _ _⟩
  case isFalse =>
    cases h
    exact ⟨_, _, true, State.breakTo_regs (by constructor <;> simp) _ _ _⟩

theorem State.push_regs (s : State) (v : Byte) : (s.setSp (s.sp - 1#8)).SameRegisters (s.push v) := by
  constructor <;> simp

theorem State.pull_regs (s : State) : (s.setSp (s.sp + 1#8)).SameRegisters s.pull.2 := by
  constructor <;> simp

theorem State.pullFlags_regs (s : State) :
    ((s.setSp (s.sp + 1#8)).setP s.pullFlags.p).SameRegisters s.pullFlags := by
  constructor <;> simp

theorem State.returnFromException_regs (s : State) :
    (((s.setSp (s.sp + 3#8)).setPc s.returnFromException.pc).setP s.pullFlags.p).SameRegisters
      s.returnFromException := by
  constructor <;> simp [State.returnFromException_p]

/-- What an instruction that gives a next state did to the registers. -/
theorem exec_effect {i : Instr} (h : exec i s = .next t) : i.Effect s t := by
  cases i
  case ldaImm | adcImm | sbcImm | andImm | oraImm | eorImm =>
    exact .acc rfl (by simp [Instr.mnemonic, Instr.shape]) ⟨_, onImmediate_regs h⟩
  case ldaZp | ldaZpX | ldaAbs | ldaAbsX | ldaAbsY | ldaIndX | ldaIndY | adcZp | adcZpX | adcAbs | adcAbsX | adcAbsY
      | adcIndX | adcIndY | sbcZp | sbcZpX | sbcAbs | sbcAbsX | sbcAbsY | sbcIndX | sbcIndY | andZp | andZpX | andAbs
      | andAbsX | andAbsY | andIndX | andIndY | oraZp | oraZpX | oraAbs | oraAbsX | oraAbsY | oraIndX | oraIndY | eorZp
      | eorZpX | eorAbs | eorAbsX | eorAbsY | eorIndX | eorIndY =>
    exact .acc rfl (by simp [Instr.mnemonic, Instr.shape]) (onRead_accOp_regs h)
  case txa | tya | aslAcc | lsrAcc | rolAcc | rorAcc =>
    exact .acc rfl (by decide) ⟨_, onImplied_regs h⟩
  case ldxImm => exact .x rfl (by simp [Instr.mnemonic, Instr.shape]) ⟨_, onImmediate_regs h⟩
  case ldxZp | ldxZpY | ldxAbs | ldxAbsY => exact .x rfl (by simp [Instr.mnemonic, Instr.shape]) (onRead_xOp_regs h)
  case tax | tsx | inx | dex => exact .x rfl (by decide) ⟨_, onImplied_regs h⟩
  case ldyImm => exact .y rfl (by simp [Instr.mnemonic, Instr.shape]) ⟨_, onImmediate_regs h⟩
  case ldyZp | ldyZpX | ldyAbs | ldyAbsX => exact .y rfl (by simp [Instr.mnemonic, Instr.shape]) (onRead_yOp_regs h)
  case tay | iny | dey => exact .y rfl (by decide) ⟨_, onImplied_regs h⟩
  case cmpImm | cpxImm | cpyImm => exact .test rfl ⟨_, _, onImmediate_regs h⟩
  case bitZp | bitAbs | cmpZp | cmpZpX | cmpAbs | cmpAbsX | cmpAbsY | cmpIndX | cmpIndY | cpxZp | cpxAbs | cpyZp
      | cpyAbs =>
    exact .test rfl (onRead_testOp_regs h)
  case incZp | incZpX | incAbs | incAbsX | decZp | decZpX | decAbs | decAbsX | aslZp | aslZpX | aslAbs | aslAbsX | lsrZp
      | lsrZpX | lsrAbs | lsrAbsX | rolZp | rolZpX | rolAbs | rolAbsX | rorZp | rorZpX | rorAbs | rorAbsX =>
    exact .test rfl (onModify_regs h)
  case staZp | staZpX | staAbs | staAbsX | staAbsY | staIndX | staIndY | stxZp | stxZpY | stxAbs | styZp | styZpX
      | styAbs =>
    exact .nothing (onWrite_regs h)
  case bcc | bcs | beq | bmi | bne | bpl | bvc | bvs =>
    simp only [exec_bcc, exec_bcs, exec_beq, exec_bmi, exec_bne, exec_bpl, exec_bvc, exec_bvs] at h
    obtain ⟨taken, regs⟩ | regs := onBranch_regs h
    · exact .jump (.inr taken) ⟨_, regs⟩
    · exact .nothing regs
  case clc | cld | cli | clv | sec | sed | sei => exact .flag rfl (onImplied_regs h)
  case txs => exact .stack (by decide) ⟨_, onImplied_regs h⟩
  case pha | php => exact .stack (by decide) ⟨_, (s.push_regs _).trans (onImplied_regs h)⟩
  case pla => exact .pullA rfl ⟨_, _, (s.pull_regs.accOp _ _).trans (onImplied_regs h)⟩
  case plp => exact .pullP rfl ⟨_, _, s.pullFlags_regs.trans (onImplied_regs h)⟩
  case jmpAbs => exact .jump (.inl rfl) ⟨_, onImplied_regs (use := State.setPc _) h⟩
  case jmpInd => exact .jump (.inl rfl) ⟨_, exec_jmpInd_regs h⟩
  case jsr => exact .subroutine (by simp [Instr.mnemonic, Instr.shape]) (exec_jsr_regs h)
  case rts => exact .subroutine (by decide) ⟨_, _, exec_rts_regs h⟩
  case rti => exact .exceptionReturn rfl ⟨_, _, _, s.returnFromException_regs.trans (onImplied_regs h)⟩
  case brk => exact .exceptionEntry rfl (exec_brk_regs h)
  case nop => exact .nothing (onImplied_regs (exec_nop s ▸ h))

end Machine
end Sys2Proof
end

/-! ## Which instructions write a register (10 R21) -/

section
namespace Sys2Proof

open Sys2Proof.Machine

/-- Settles O18: an effect on a register names its writers, and every other effect leaves the register alone. -/
theorem onlyListedInstructionsWriteARegister : Obligations.OnlyListedInstructionsWriteARegister := by
  unfold Obligations.OnlyListedInstructionsWriteARegister
  intro i s t h
  cases exec_effect h with
  | acc _ names regs =>
    obtain ⟨_, regs⟩ := regs
    exact ⟨fun _ => names.imp_left (List.Sublist.mem · (by decide)), (absurd regs.x ·), (absurd regs.y ·),
      (absurd regs.sp ·)⟩
  | x _ names regs =>
    obtain ⟨_, regs⟩ := regs
    exact ⟨(absurd regs.a ·), fun _ => names, (absurd regs.y ·), (absurd regs.sp ·)⟩
  | y _ names regs =>
    obtain ⟨_, regs⟩ := regs
    exact ⟨(absurd regs.a ·), (absurd regs.x ·), fun _ => names, (absurd regs.sp ·)⟩
  | test _ regs =>
    obtain ⟨_, _, regs⟩ := regs
    exact ⟨(absurd regs.a ·), (absurd regs.x ·), (absurd regs.y ·), (absurd regs.sp ·)⟩
  | flag _ regs =>
    exact ⟨(absurd regs.a ·), (absurd regs.x ·), (absurd regs.y ·), (absurd regs.sp ·)⟩
  | stack names regs =>
    obtain ⟨_, regs⟩ := regs
    exact ⟨(absurd regs.a ·), (absurd regs.x ·), (absurd regs.y ·), fun _ => List.Sublist.mem names (by decide)⟩
  | pullA name regs =>
    obtain ⟨_, _, regs⟩ := regs
    exact ⟨fun _ => .inl (by rw [name]; decide), (absurd regs.x ·), (absurd regs.y ·), fun _ => by rw [name]; decide⟩
  | pullP name regs =>
    obtain ⟨_, _, regs⟩ := regs
    exact ⟨(absurd regs.a ·), (absurd regs.x ·), (absurd regs.y ·), fun _ => by rw [name]; decide⟩
  | jump _ regs =>
    obtain ⟨_, regs⟩ := regs
    exact ⟨(absurd regs.a ·), (absurd regs.x ·), (absurd regs.y ·), (absurd regs.sp ·)⟩
  | subroutine names regs =>
    obtain ⟨_, _, regs⟩ := regs
    exact ⟨(absurd regs.a ·), (absurd regs.x ·), (absurd regs.y ·), fun _ => List.Sublist.mem names (by decide)⟩
  | exceptionReturn name regs | exceptionEntry name regs =>
    obtain ⟨_, _, _, regs⟩ := regs
    exact ⟨(absurd regs.a ·), (absurd regs.x ·), (absurd regs.y ·), fun _ => by rw [name]; decide⟩
  | nothing regs =>
    exact ⟨(absurd regs.a ·), (absurd regs.x ·), (absurd regs.y ·), (absurd regs.sp ·)⟩

end Sys2Proof
end

/-! ## Which instructions write a flag (10 R28) -/

section
namespace Sys2Proof

open Sys2Proof.Machine

/-- Where P goes from `p` to `q` under the mnemonic, each flag that differs has the mnemonic among its writers (10 R28). -/
def Mnemonic.WritesListedFlags (n : Mnemonic) (p q : Flags) : Prop :=
  (q.c ≠ p.c → n ∈ [Mnemonic.adc, .sbc, .cmp, .cpx, .cpy, .asl, .lsr, .rol, .ror, .clc, .sec, .plp, .rti]) ∧
  (q.z ≠ p.z ∨ q.n ≠ p.n →
    n ∈ [Mnemonic.lda, .ldx, .ldy, .tax, .tay, .txa, .tya, .tsx, .pla, .adc, .sbc, .and, .ora, .eor] ++
      [Mnemonic.bit, .cmp, .cpx, .cpy, .inc, .dec, .inx, .iny, .dex, .dey, .asl, .lsr, .rol, .ror, .plp, .rti]) ∧
  (q.i ≠ p.i → n ∈ [Mnemonic.sei, .cli, .plp, .rti, .brk]) ∧
  (q.d ≠ p.d → n ∈ [Mnemonic.sed, .cld, .plp, .rti]) ∧
  (q.v ≠ p.v → n ∈ [Mnemonic.adc, .sbc, .bit, .clv, .plp, .rti]) ∧
  (q.b ≠ p.b → n ∈ [Mnemonic.plp, .rti])

namespace Machine

/-- Only ADC, SBC, the compares and the shifts have a carry (43 R141-R145, 44 R170). -/
theorem alu_c_of_ne {f : AluOp} {a m : Byte} {p : Flags} (h : (alu f a m p).2.c ≠ p.c) :
    f ∈ [AluOp.add, .sub, .cmp, .asl, .lsr, .rol, .ror] := by
  cases f
  case add | sub | cmp | asl | lsr | rol | ror => decide
  case and | or | xor | bit | inc | dec | pass => exact absurd rfl h

/-- Only ADC, SBC and BIT write the overflow (43 R141-R144, R151). -/
theorem alu_v_of_ne {f : AluOp} {a m : Byte} {p : Flags} (h : (alu f a m p).2.v ≠ p.v) :
    f ∈ [AluOp.add, .sub, .bit] := by
  cases f
  case add | sub | bit => decide
  case and | or | xor | cmp | inc | dec | asl | lsr | rol | ror | pass => exact absurd rfl h

end Machine

variable {n : Mnemonic} {p q : Flags}

theorem Mnemonic.writesListedFlags_refl (n : Mnemonic) (p : Flags) : n.WritesListedFlags p p :=
  ⟨(absurd rfl ·), (·.elim (absurd rfl ·) (absurd rfl ·)), (absurd rfl ·), (absurd rfl ·), (absurd rfl ·), (absurd rfl ·)⟩

theorem Mnemonic.writesListedFlags_pull (h : n ∈ [Mnemonic.plp, .rti]) : n.WritesListedFlags p q := by
  simp only [List.mem_cons, List.not_mem_nil, or_false] at h
  rcases h with rfl | rfl <;> simp [Mnemonic.WritesListedFlags]

theorem Mnemonic.writesListedFlags_brk (b : Bool) : Mnemonic.brk.WritesListedFlags p { p with i := b } := by
  simp [Mnemonic.WritesListedFlags]

theorem Mnemonic.writesListedFlags_flagsSet (h : n.flagsSet? p = some q) : n.WritesListedFlags p q := by
  cases n <;> cases h <;> simp [Mnemonic.WritesListedFlags]

/-- The alu writes Z and N for every operation, C and V for some, and I, D and bit 4 for none. -/
theorem Mnemonic.writesListedFlags_alu {f : AluOp} (h : n.aluOp? = some f) (a m : Byte) :
    n.WritesListedFlags p (alu f a m p).2 := by
  refine ⟨fun hc => ?_, fun _ => ?_, (absurd (alu_i ..) ·), (absurd (alu_d ..) ·), fun hv => ?_, (absurd (alu_b ..) ·)⟩
  · have carries := alu_c_of_ne hc
    revert carries
    cases n <;> cases h <;> decide
  · cases n <;> cases h <;> decide
  · have overflows := alu_v_of_ne hv
    revert overflows
    cases n <;> cases h <;> decide

/-- Settles O19: each effect on P is one of the alu's, a flag instruction's, a pulled byte or the I of BRK. -/
theorem onlyListedInstructionsWriteAFlag : Obligations.OnlyListedInstructionsWriteAFlag := by
  unfold Obligations.OnlyListedInstructionsWriteAFlag
  intro i s t h
  change i.mnemonic.WritesListedFlags s.p t.p
  cases exec_effect h with
  | acc op _ regs | x op _ regs | y op _ regs =>
    obtain ⟨m, regs⟩ := regs
    rw [regs.p]
    exact Mnemonic.writesListedFlags_alu op _ m
  | test op regs =>
    obtain ⟨a, m, regs⟩ := regs
    rw [regs.p]
    exact Mnemonic.writesListedFlags_alu op a m
  | flag result regs =>
    rw [regs.p]
    exact Mnemonic.writesListedFlags_flagsSet result
  | pullA name regs =>
    obtain ⟨_, m, regs⟩ := regs
    rw [regs.p]
    exact Mnemonic.writesListedFlags_alu (by rw [name]; rfl) s.a m
  | pullP name _ | exceptionReturn name _ =>
    exact Mnemonic.writesListedFlags_pull (by rw [name]; decide)
  | exceptionEntry name regs =>
    obtain ⟨_, _, b, regs⟩ := regs
    rw [name, regs.p]
    exact Mnemonic.writesListedFlags_brk b
  | stack _ regs | jump _ regs =>
    obtain ⟨_, regs⟩ := regs
    rw [regs.p]
    exact Mnemonic.writesListedFlags_refl _ _
  | subroutine _ regs =>
    obtain ⟨_, _, regs⟩ := regs
    rw [regs.p]
    exact Mnemonic.writesListedFlags_refl _ _
  | nothing regs =>
    rw [regs.p]
    exact Mnemonic.writesListedFlags_refl _ _

end Sys2Proof
end

/-! ## P as a byte (10 R23-R25) -/

section
namespace Sys2Proof

open Sys2Proof.Machine

/-- A byte is the sum of its bits. -/
theorem Byte.toNat_eq_sum_bits (v : Byte) :
    v.toNat = (v.getLsbD 0).toNat + 2 * (v.getLsbD 1).toNat + 4 * (v.getLsbD 2).toNat + 8 * (v.getLsbD 3).toNat +
      16 * (v.getLsbD 4).toNat + 32 * (v.getLsbD 5).toNat + 64 * (v.getLsbD 6).toNat + 128 * (v.getLsbD 7).toNat := by
  have := v.isLt
  simp only [BitVec.getLsbD, Nat.toNat_testBit]
  omega

/-- P as a byte, as a number. -/
theorem Machine.Flags.toByteWith_toNat (b : Bool) (p : Flags) :
    (p.toByteWith b).toNat =
      p.c.toNat + 2 * p.z.toNat + 4 * p.i.toNat + 8 * p.d.toNat + 16 * b.toNat + 32 + 64 * p.v.toNat + 128 * p.n.toNat := by
  obtain ⟨h0, h1, h2, h3, h4, h5, h6, h7⟩ := Flags.toByteWith_getLsbD b p
  rw [Byte.toNat_eq_sum_bits, h0, h1, h2, h3, h4, h5, h6, h7, Bool.toNat_true]

/-- Settles O11: the third clause compares the bits of a byte with the flags taken from it. -/
theorem statusByteLayout : Obligations.StatusByteLayout := by
  unfold Obligations.StatusByteLayout
  intro p b b' v
  refine ⟨Flags.toByteWith_toNat b p, Flags.ofByte_toByteWith b b' p, ?_⟩
  rw [Flags.toByteWith_toNat, Byte.toNat_eq_sum_bits v]
  simp only [Flags.ofByte]
  omega

end Sys2Proof
end

/-! ## The machine after reset (10 R33) -/

section
namespace Sys2Proof

open Sys2Proof.Machine

/-- Settles O57: nothing is in memory, no cycle is owed, the mode is Reset and the Status Ok. -/
theorem resetMeetsTheInvariant : Obligations.ResetMeetsTheInvariant where
  memWf := rfl
  ticksBound := Nat.zero_le 6
  noStackFaultMode := by decide
  noStackFaultStatus := by decide

end Sys2Proof
end

/-! ## The canonical form of memory (20 R40, R55) -/

section
namespace Sys2Proof

open Sys2Proof.Machine

namespace Machine.Memory

variable {lo a b : Nat} {v w : Byte} {m m' : Memory}

theorem wfFrom_cons_iff : Memory.wfFrom lo ((a, v) :: m) = true ↔
    lo ≤ a ∧ a < 65536 ∧ v ≠ Config.blankByte ∧ Memory.wfFrom (a + 1) m = true := by
  simp only [Memory.wfFrom, Bool.and_eq_true, decide_eq_true_eq, and_assoc]

theorem read_cons_self : Memory.read ((a, v) :: m) a = v := by
  rw [read_cons, if_pos rfl]

/-- A byte that is not blank is listed, so it does not lie below the first entry. -/
theorem head_le_of_read_ne_blank (hm : Memory.wfFrom lo ((a, v) :: m) = true)
    (h : Memory.read ((a, v) :: m) b ≠ Config.blankByte) : a ≤ b := by
  obtain ⟨-, ha, hv, hrest⟩ := wfFrom_cons_iff.1 hm
  have hfrom : Memory.wfFrom a ((a, v) :: m) = true := wfFrom_cons_iff.2 ⟨Nat.le_refl a, ha, hv, hrest⟩
  exact Nat.le_of_not_lt fun hb => h (read_below hfrom hb)

/-- Canonical memories that read the same start with the same entry: neither can start before the other. -/
theorem head_eq_of_reads (hm : Memory.wfFrom lo ((a, v) :: m) = true) (hm' : Memory.wfFrom lo ((b, w) :: m') = true)
    (h : ∀ x < 65536, Memory.read ((a, v) :: m) x = Memory.read ((b, w) :: m') x) : a = b ∧ v = w := by
  obtain ⟨-, ha, hv, -⟩ := wfFrom_cons_iff.1 hm
  obtain ⟨-, hb, hw, -⟩ := wfFrom_cons_iff.1 hm'
  have hle : a ≤ b := head_le_of_read_ne_blank hm (by rwa [h b hb, read_cons_self])
  have hge : b ≤ a := head_le_of_read_ne_blank hm' (by rwa [← h a ha, read_cons_self])
  obtain rfl := Nat.le_antisymm hle hge
  exact ⟨rfl, by simpa only [read_cons_self] using h a ha⟩

/-- What follows the same first entry reads the same, being blank up to that entry. -/
theorem read_rest_eq (hm : Memory.wfFrom (a + 1) m = true) (hm' : Memory.wfFrom (a + 1) m' = true) {x : Nat}
    (h : Memory.read ((a, v) :: m) x = Memory.read ((a, v) :: m') x) : Memory.read m x = Memory.read m' x := by
  obtain hx | hx := Nat.lt_or_ge x (a + 1)
  · rw [read_below hm hx, read_below hm' hx]
  · have hne : a ≠ x := by omega
    simpa only [read_cons, if_neg hne] using h

/-- Nothing is listed where every address reads as blank. -/
theorem eq_nil_of_reads_blank (hm : Memory.wfFrom lo m = true) (h : ∀ x < 65536, Memory.read m x = Config.blankByte) :
    m = [] := by
  cases m with
  | nil => rfl
  | cons c m =>
    obtain ⟨a, v⟩ := c
    obtain ⟨-, ha, hv, -⟩ := wfFrom_cons_iff.1 hm
    exact absurd (read_cons_self.symm.trans (h a ha)) hv

theorem eq_of_reads (hm : Memory.wfFrom lo m = true) (hm' : Memory.wfFrom lo m' = true)
    (h : ∀ x < 65536, Memory.read m x = Memory.read m' x) : m = m' := by
  induction m generalizing lo m' with
  | nil => exact (eq_nil_of_reads_blank hm' fun x hx => (h x hx).symm).symm
  | cons c m ih =>
    cases m' with
    | nil => exact eq_nil_of_reads_blank hm h
    | cons c' m' =>
      obtain ⟨a, v⟩ := c
      obtain ⟨b, w⟩ := c'
      obtain ⟨rfl, rfl⟩ := head_eq_of_reads hm hm' h
      obtain ⟨-, -, -, hrest⟩ := wfFrom_cons_iff.1 hm
      obtain ⟨-, -, -, hrest'⟩ := wfFrom_cons_iff.1 hm'
      rw [ih hrest hrest' fun x hx => read_rest_eq hrest hrest' (h x hx)]

end Machine.Memory

/-- Settles O8: of two canonical memories that read the same, neither can list an entry before the other does. -/
theorem canonicalMemoryIsItsReads : Obligations.CanonicalMemoryIsItsReads := by
  unfold Obligations.CanonicalMemoryIsItsReads
  refine ⟨fun m a v hm => Memory.wf_write hm a v, fun m m' hm hm' h => Memory.eq_of_reads hm hm' fun x hx => ?_⟩
  have hread := h (BitVec.ofNat 16 x)
  rwa [BitVec.toNat_ofNat, Nat.mod_eq_of_lt hx] at hread

end Sys2Proof
end

/-! ## Where an instruction stops (20 R46, 40 R89) -/

section
namespace Sys2Proof

open Sys2Proof.Machine

/-- The host's next reply to the hook is Halt, and the instruction consults the hook: JSR always, BRK where its vector is zero
and BRK_ZERO_HOOK holds (45 R190, R193). -/
def Instr.HaltsAt (i : Instr) (s : State) : Prop :=
  s.bus.nextReply.answer = .halt ∧
    (i.mnemonic = .jsr ∨ i.mnemonic = .brk ∧ (s.read16 0xFFFE#16).1 = 0#16 ∧ s.params.brkZeroHook = true)

namespace Machine

variable {s : State}

theorem State.callHook_halts_iff (target source : Addr) :
    (s.callHook target source).1 = .halt ↔ s.bus.nextReply.answer = .halt := by
  rw [State.callHook_result, HookAnswer.result_eq_halt_iff]

theorem exec_jsr_halt (w : Addr) (h : s.bus.nextReply.answer = .halt) : exec (.jsr w) s = .fault .hostHalt := by
  change execJsr w s = _
  simp only [execJsr, (State.callHook_halts_iff _ _).2 h]

theorem exec_jsr_completes (w : Addr) (h : s.bus.nextReply.answer ≠ .halt) : ∃ t, exec (.jsr w) s = .next t := by
  change ∃ t, execJsr w s = .next t
  unfold execJsr
  simp only
  split
  case h_1 => exact ⟨_, rfl⟩
  case h_2 halts => exact absurd ((State.callHook_halts_iff _ _).1 halts) h
  case h_3 => exact ⟨_, rfl⟩

theorem exec_brk_halt (h : s.bus.nextReply.answer = .halt) (hv : (s.read16 0xFFFE#16).1 = 0#16)
    (hz : s.params.brkZeroHook = true) : exec .brk s = .fault .hostHalt := by
  change execBrk s = _
  have halts := (State.callHook_halts_iff 0#16 (s.pc - 1#16)).2 (s.read16_nextReply 0xFFFE#16 ▸ h)
  simp only [execBrk, Vector.addr, hv, hz, halts, and_self, if_true]

theorem exec_brk_completes
    (h : ¬(s.bus.nextReply.answer = .halt ∧ (s.read16 0xFFFE#16).1 = 0#16 ∧ s.params.brkZeroHook = true)) :
    ∃ t, exec .brk s = .next t := by
  change ∃ t, execBrk s = .next t
  unfold execBrk
  simp only
  split
  case isTrue consults =>
    split
    case h_1 => exact ⟨_, rfl⟩
    case h_2 halts =>
      rw [State.callHook_halts_iff, State.read16_nextReply] at halts
      exact absurd ⟨halts, consults⟩ h
    case h_3 => exact ⟨_, rfl⟩
  case isFalse => exact ⟨_, rfl⟩

/-- Every instruction gives a next state where it does not run into the hook's Halt. -/
theorem exec_completes {i : Instr} (h : ¬i.HaltsAt s) : ∃ t, exec i s = .next t := by
  cases i
  case jsr w => exact exec_jsr_completes w fun halt => h ⟨halt, .inl rfl⟩
  case brk => exact exec_brk_completes fun ⟨halt, consults⟩ => h ⟨halt, .inr ⟨rfl, consults⟩⟩
  case bcc | bcs | beq | bmi | bne | bpl | bvc | bvs =>
    simp only [exec_bcc, exec_bcs, exec_beq, exec_bmi, exec_bne, exec_bpl, exec_bvc, exec_bvs, onBranch_eq]
    exact ⟨_, rfl⟩
  all_goals exact ⟨_, rfl⟩

/-- An instruction that runs into the hook's Halt is JSR or BRK, and stops in the fault hostHalt. -/
theorem exec_of_haltsAt {i : Instr} (h : i.HaltsAt s) : exec i s = .fault .hostHalt := by
  obtain ⟨halt, name | ⟨name, hv, hz⟩⟩ := h
  · cases i <;> cases name
    exact exec_jsr_halt _ halt
  · cases i <;> cases name
    exact exec_brk_halt halt hv hz

end Machine

/-- Settles O16: an instruction either runs into the hook's Halt, which is a fault, or gives a next state. -/
theorem onlyHookHaltStopsAnInstruction : Obligations.OnlyHookHaltStopsAnInstruction := by
  unfold Obligations.OnlyHookHaltStopsAnInstruction
  refine ⟨fun i s r h => ?_, fun i s f h => ?_, fun w s halt => exec_of_haltsAt ⟨halt, .inl rfl⟩,
    fun s halt hv hz => exec_of_haltsAt ⟨halt, .inr ⟨rfl, hv, hz⟩⟩⟩
  · by_cases halts : i.HaltsAt s
    · cases h.symm.trans (exec_of_haltsAt halts)
    · obtain ⟨t, ht⟩ := exec_completes halts
      cases h.symm.trans ht
  · by_contra halts
    obtain ⟨t, ht⟩ := exec_completes halts
    cases h.symm.trans ht

end Sys2Proof
end

/-! ## The Bus calls leave the registers (20 R41, R42, R46) -/

section
namespace Sys2Proof.Machine

variable (s : State)

theorem State.busRead_sameRegisters (a : Addr) : s.SameRegisters (s.busRead a).2 := by
  constructor <;> simp

theorem State.busWrite_sameRegisters (a : Addr) (v : Byte) : s.SameRegisters (s.busWrite a v) := by
  constructor <;> simp

theorem State.callHook_sameRegisters (target source : Addr) : s.SameRegisters (s.callHook target source).2 := by
  constructor <;> rfl

theorem State.busWrite_sameMemoryExcept (a : Addr) (v : Byte) : s.SameMemoryExcept [a] (s.busWrite a v) :=
  fun _ hx => s.busWrite_peek_other (List.ne_of_not_mem_cons hx) v

end Sys2Proof.Machine
end

/-! ## The reference Bus (20 R55) -/

section
namespace Sys2Proof

open Sys2Proof.Machine

namespace Machine

variable {s : State}

theorem State.OnReferenceBus.isMapped (h : s.OnReferenceBus) (a : Addr) : s.bus.isMapped a = false := by
  obtain ⟨hmapped, -⟩ := h
  rw [Bus.isMapped, hmapped, List.any_nil]

theorem State.OnReferenceBus.nextReply (h : s.OnReferenceBus) : s.bus.nextReply = ⟨.value 0#16, []⟩ := by
  obtain ⟨-, hhooks⟩ := h
  exact Bus.nextReply_nil hhooks

theorem State.OnReferenceBus.callHook_result (h : s.OnReferenceBus) (target source : Addr) :
    (s.callHook target source).1 = .fallthrough := by
  rw [State.callHook_result, h.nextReply, HookAnswer.result_zero]

/-- With no reply queued the hook changes no byte (log entry 7). -/
theorem State.OnReferenceBus.callHook_sameMemory (h : s.OnReferenceBus) (target source : Addr) :
    s.SameMemory (s.callHook target source).2 := by
  refine State.peek_congr ?_
  rw [State.callHook_bus_mem, h.nextReply, Memory.writeAll]

end Machine

/-- Settles O7: the reference Bus maps no address and has no reply of the hook queued. -/
theorem referenceBusIsAByteArray : Obligations.ReferenceBusIsAByteArray := by
  unfold Obligations.ReferenceBusIsAByteArray
  intro s h hm
  refine ⟨fun a => ?_, fun a v => ?_, fun target source => ?_⟩
  · exact s.busRead_plain (h.isMapped a)
  · exact ⟨s.busWrite_peek_same (h.isMapped a) hm v, s.busWrite_sameMemoryExcept a v, s.busWrite_sameRegisters a v⟩
  · exact ⟨h.callHook_result target source, h.callHook_sameMemory target source,
      s.callHook_sameRegisters target source⟩

end Sys2Proof
end

/-! ## The vector accessors (20 R54) -/

section
namespace Sys2Proof

open Sys2Proof.Machine

theorem loByte_eq_ofNat (w : Addr) : loByte w = BitVec.ofNat 8 w.toNat := by
  apply BitVec.eq_of_toNat_eq
  rw [loByte_toNat, BitVec.toNat_ofNat]

theorem hiByte_eq_ofNat (w : Addr) : hiByte w = BitVec.ofNat 8 (w.toNat / 256) := by
  rw [← hiByte_toNat, BitVec.ofNat_toNat, BitVec.setWidth_eq]

namespace Machine

variable (s : State) (kind : Vector) (w : Addr)

theorem Vector.addr_ne_succ : kind.addr ≠ kind.addr + 1#16 := by
  cases kind <;> decide

theorem setVector_calls : (setVector kind w s).bus.calls =
    .write (kind.addr + 1#16) (hiByte w) :: .write kind.addr (loByte w) :: s.bus.calls := by
  simp only [setVector, State.busWrite_bus_calls]

theorem setVector_sameRegisters : s.SameRegisters (setVector kind w s) :=
  (s.busWrite_sameRegisters _ _).trans (State.busWrite_sameRegisters _ _ _)

theorem setVector_ticks : (setVector kind w s).ticks = s.ticks := by
  simp only [setVector, State.busWrite_ticks]

theorem setVector_isMapped (a : Addr) : (setVector kind w s).bus.isMapped a = s.bus.isMapped a := by
  simp only [setVector, State.busWrite_isMapped]

theorem setVector_sameMemoryExcept :
    s.SameMemoryExcept [kind.addr, kind.addr + 1#16] (setVector kind w s) := by
  intro a ha
  simp only [List.mem_cons, List.not_mem_nil, or_false, not_or] at ha
  obtain ⟨hlow, hhigh⟩ := ha
  rw [setVector, State.busWrite_peek_other _ hhigh, s.busWrite_peek_other hlow]

variable {s kind}

theorem setVector_peek_low (hm : s.bus.mem.wf = true) (h : s.bus.isMapped kind.addr = false) :
    (setVector kind w s).peek kind.addr = loByte w := by
  rw [setVector, State.busWrite_peek_other _ kind.addr_ne_succ, s.busWrite_peek_same h hm]

theorem setVector_peek_high (hm : s.bus.mem.wf = true) (h : s.bus.isMapped (kind.addr + 1#16) = false) :
    (setVector kind w s).peek (kind.addr + 1#16) = hiByte w :=
  State.busWrite_peek_same _ (by rw [State.busWrite_isMapped, h]) (s.busWrite_wf _ _ hm) _

/-- R54's round trip, on a host that maps neither byte. -/
theorem getVector_setVector (hm : s.bus.mem.wf = true) (hlow : s.bus.isMapped kind.addr = false)
    (hhigh : s.bus.isMapped (kind.addr + 1#16) = false) : (getVector kind (setVector kind w s)).1 = w := by
  rw [getVector, State.read16_plain _ (by rw [setVector_isMapped, hlow]) (by rw [setVector_isMapped, hhigh]),
    setVector_peek_low w hm hlow, setVector_peek_high w hm hhigh, word_hiByte_loByte]

variable (s kind)

theorem getVector_toNat : (getVector kind s).1.toNat =
    ((s.busRead kind.addr).2.busRead (kind.addr + 1#16)).1.toNat * 256 + (s.busRead kind.addr).1.toNat :=
  word_toNat _ _

theorem getVector_sameRegisters : s.SameRegisters (getVector kind s).2 :=
  (s.busRead_sameRegisters _).trans (State.busRead_sameRegisters _ _)

end Machine

/-- Settles O10: the accessors are two Bus calls each, and the two vector bytes are different addresses. -/
theorem vectorRoundTrip : Obligations.VectorRoundTrip := by
  unfold Obligations.VectorRoundTrip
  intro s kind w
  rw [← loByte_eq_ofNat, ← hiByte_eq_ofNat]
  exact ⟨setVector_calls s kind w, s.read16_bus_calls kind.addr, getVector_toNat s kind,
    setVector_sameRegisters s kind w, setVector_ticks s kind w,
    getVector_sameRegisters s kind, s.read16_ticks kind.addr, State.peek_congr (s.read16_bus_mem kind.addr),
    setVector_sameMemoryExcept s kind w, getVector_setVector w, rfl, rfl, rfl⟩

end Sys2Proof
end

/-! ## The penalty of an instruction (41 R111, 45 R180) -/

section
namespace Sys2Proof

/-- The penalty of an instruction by the spec's words: branches (45 R180), and the instructions of 41 R111 in its three modes. -/
def Instr.penalty (i : Instr) : Penalty :=
  if i.mnemonic.isBranch then .branch
  else if i.mnemonic.paysForCrossing = true ∧ (i.mode = .absX ∨ i.mode = .absY ∨ i.mode = .indY) then .pageCross
  else .none

theorem Instr.penalty_eq_branch_iff (i : Instr) : i.penalty = .branch ↔ i.mnemonic.isBranch = true := by
  unfold Instr.penalty
  split
  case isTrue hb => simp only [hb]
  case isFalse hb => split <;> simp [hb]

theorem Mnemonic.isBranch_eq_false_of_paysForCrossing {m : Mnemonic} (h : m.paysForCrossing = true) : m.isBranch = false := by
  cases m <;> revert h <;> decide

theorem Instr.penalty_eq_pageCross_iff (i : Instr) : i.penalty = .pageCross ↔
    i.mnemonic.paysForCrossing = true ∧ (i.mode = .absX ∨ i.mode = .absY ∨ i.mode = .indY) := by
  unfold Instr.penalty
  split
  case isTrue hb =>
    have hp : i.mnemonic.paysForCrossing ≠ true := fun h => by
      simp [Mnemonic.isBranch_eq_false_of_paysForCrossing h] at hb
    simp [hp]
  case isFalse =>
    split
    case isTrue hp => simp [hp]
    case isFalse hp => simp [hp]

end Sys2Proof
end

/-! ## What a descriptor makes of its operand bytes (30 R60-R63) -/

section
namespace Sys2Proof

open Sys2Proof.Machine

/-- The format of `d` makes the instruction `i` of these operand bytes (30 R60, R62). -/
inductive Descriptor.Makes (d : Descriptor) : List Byte → Instr → Prop where
  | f1 {i : Instr} (h : d.format = .f1 i) : d.Makes [] i
  | f2 {make : Byte → Instr} {b : Byte} (h : d.format = .f2 make) : d.Makes [b] (make b)
  | f3 {make : Addr → Instr} {w : Addr} (h : d.format = .f3 make) : d.Makes [loByte w, hiByte w] (make w)

variable {op : Byte} {bytes operands rest : List Byte} {i : Instr} {d : Descriptor}

/-- The low byte of an address comes first: any two operand bytes are the two bytes of one (30 R62). -/
theorem Descriptor.makes_word {make : Addr → Instr} (h : d.format = .f3 make) (b1 b2 : Byte) :
    d.Makes [b1, b2] (make (word b2 b1)) := by
  simpa only [loByte_word, hiByte_word] using Descriptor.Makes.f3 (w := word b2 b1) h

theorem decode_cons_of_makes (hd : descriptorOf op = some d) (h : d.Makes operands i) (rest : List Byte) :
    decode (op :: (operands ++ rest)) = .ok (i, rest) := by
  cases h with
  | f1 h => simp [decode, hd, h]
  | f2 h => simp [decode, hd, h]
  | f3 h => simp [decode, hd, h]

/-- What the decoder read, where it answers an instruction: an opcode byte with a descriptor, and the operand bytes its format
makes the instruction of. -/
theorem makes_of_decode_cons (h : decode (op :: bytes) = .ok (i, rest)) :
    ∃ d operands, descriptorOf op = some d ∧ d.Makes operands i ∧ bytes = operands ++ rest := by
  cases hd : descriptorOf op with
  | none => simp [decode, hd] at h
  | some d =>
    simp only [decode, hd] at h
    refine ⟨d, ?_⟩
    split at h
    case h_1 hf =>
      cases h
      exact ⟨[], rfl, .f1 hf, rfl⟩
    case h_2 b1 r hf =>
      cases h
      exact ⟨[b1], rfl, .f2 hf, rfl⟩
    case h_3 b1 b2 r hf =>
      cases h
      exact ⟨[b1, b2], rfl, d.makes_word hf b1 b2, rfl⟩
    case h_4 => cases h

/-- The opcode byte of each row of the table has the descriptor that makes the row's instruction, at the row's cost
(30 R63, R66, 70 R282). The number of operand bytes says which constructor of `Makes` it is. -/
theorem encode_row (i : Instr) :
    ∃ op operands d, encode i = op :: operands ∧ descriptorOf op = some d ∧ d.Makes operands i ∧
      d.cycles = i.baseCycles ∧ d.penalty = i.penalty := by
  cases i <;> exact ⟨_, _, _, rfl, rfl, by constructor; rfl, rfl, rfl⟩

/-- An instruction that an agreeing descriptor makes has that descriptor's row, and is encoded as the bytes it is made of. -/
theorem Descriptor.Agrees.of_makes (hd : d.Agrees op) (h : d.Makes operands i) :
    i.mnemonic = d.mnemonic ∧ i.mode = d.mode ∧ d.mode.operandBytes = operands.length ∧ encode i = op :: operands := by
  unfold Descriptor.Agrees at hd
  cases h with
  | f1 h =>
    rw [h] at hd
    exact hd
  | f2 h =>
    rw [h] at hd
    exact hd _
  | f3 h =>
    rw [h] at hd
    exact hd _

end Sys2Proof
end

/-! ## Decoding and encoding are inverse (30 R60-R66) -/

section
namespace Sys2Proof

theorem Instr.wf_eq_true (i : Instr) : i.wf = true := by
  rw [Instr.wf, Written.wf, Bool.and_eq_true]
  exact ⟨List.elem_eq_true_of_mem i.mode_mem_modes, decide_eq_true i.operand_lt⟩

/-- Settles O2: the decoder finds the descriptor of the encoding's first byte, which makes the instruction again. -/
theorem decodeOfEncodeIsTheInstruction : Obligations.DecodeOfEncodeIsTheInstruction := by
  unfold Obligations.DecodeOfEncodeIsTheInstruction
  intro i rest
  obtain ⟨op, operands, d, he, hd, hm, -, -⟩ := encode_row i
  rw [he]
  exact ⟨i.wf_eq_true, decode_cons_of_makes hd hm rest⟩

/-- Settles O3: the decoder read what a descriptor's format made the instruction of, and that is its encoding. -/
theorem encodeOfDecodeIsTheBytes : Obligations.EncodeOfDecodeIsTheBytes := by
  unfold Obligations.EncodeOfDecodeIsTheBytes
  intro bytes i rest h
  cases bytes with
  | nil => cases h
  | cons op bytes =>
    obtain ⟨d, operands, hd, hm, rfl⟩ := makes_of_decode_cons h
    obtain ⟨-, -, -, he⟩ := (descriptorOf_agrees op d hd).of_makes hm
    rw [he, List.cons_append]

end Sys2Proof
end

/-! ## The operand of a branch (30 R69, 41 R113) -/

section
namespace Sys2Proof

open Sys2Proof.Machine

theorem sext16_toInt (b : Byte) : (sext16 b).toInt = b.toInt :=
  BitVec.toInt_signExtend_of_le (by decide)

/-- A branch reaches the target by `b` exactly when `b` is the signed distance from the next instruction. -/
theorem branchTarget_eq_iff (pcn target : Addr) (b : Byte) :
    branchTarget pcn b = target ↔ b.toInt = (target - pcn).toInt := by
  rw [← sext16_toInt, BitVec.toInt_inj, branchTarget, BitVec.eq_sub_iff_add_eq, BitVec.add_comm]

theorem branchOperand_eq_some_iff (pc0 target : Addr) (b : Byte) :
    branchOperand pc0 target = some b ↔ b.toInt = (target - (pc0 + 2#16)).toInt := by
  have hlow : -128 ≤ b.toInt := BitVec.le_toInt b
  have hhigh : b.toInt < 128 := BitVec.toInt_lt
  simp only [branchOperand]
  generalize (target - (pc0 + 2#16)).toInt = n
  split
  case isTrue hfar =>
    simp only [reduceCtorEq, false_iff]
    omega
  case isFalse hnear =>
    rw [Option.some_inj, ← BitVec.toInt_inj, BitVec.toInt_ofInt_eq_self (by decide) (by omega) (by omega)]
    exact eq_comm

/-- Settles O6: the assembler's byte and the byte that reaches the target are both the signed distance. -/
theorem branchOperandReachesItsTarget : Obligations.BranchOperandReachesItsTarget := by
  unfold Obligations.BranchOperandReachesItsTarget
  intro pc0 target
  have key (b : Byte) : branchOperand pc0 target = some b ↔ branchTarget (pc0 + 2#16) b = target := by
    rw [branchOperand_eq_some_iff, branchTarget_eq_iff]
  exact ⟨fun b => (key b).mp, by simp only [Option.eq_none_iff_forall_ne_some, ne_eq, key]⟩

end Sys2Proof
end

/-! ## The illegal bytes, and words of the table (30 R65, R66) -/

section
namespace Sys2Proof

/-- The bytes without a descriptor in the map of 30 R64, in rising order, are the list of R65. -/
theorem filter_descriptorOf_isNone :
    ((List.range 256).map (BitVec.ofNat 8)).filter (fun op => (descriptorOf op).isNone) = illegalBytes := by decide

theorem descriptorOf_eq_none_iff (op : Byte) : descriptorOf op = none ↔ op ∈ illegalBytes := by
  have hop : op ∈ (List.range 256).map (BitVec.ofNat 8) :=
    List.mem_map.mpr ⟨op.toNat, List.mem_range.mpr op.isLt, by rw [BitVec.ofNat_toNat, BitVec.setWidth_eq]⟩
  rw [← filter_descriptorOf_isNone, List.mem_filter, Option.isNone_iff_eq_none]
  exact (and_iff_right hop).symm

/-- The decoder's one reason to call an opcode illegal. -/
theorem decode_illegalOpcode_iff (op : Byte) (rest : List Byte) :
    decode (op :: rest) = .error (.illegalOpcode op) ↔ descriptorOf op = none := by
  cases hd : descriptorOf op with
  | none => simp [decode, hd]
  | some d =>
    simp only [decode, hd, reduceCtorEq, iff_false]
    split <;> simp

/-- Settles O4: the decoder calls a byte illegal exactly where the map has no descriptor. -/
theorem illegalBytesAreTheListed105 : Obligations.IllegalBytesAreTheListed105 := by
  unfold Obligations.IllegalBytesAreTheListed105
  intro op rest
  rw [decode_illegalOpcode_iff]
  exact ⟨descriptorOf_eq_none_iff op, descriptorOf_eq_none_iff op⟩

/-- Settles O1: each word is run through the decoder. -/
theorem specWordsDecode : Obligations.SpecWordsDecode := by
  unfold Obligations.SpecWordsDecode
  decide

end Sys2Proof
end

/-! ## The rows of the opcode table (30 R63, 70 R282) -/

section
namespace Sys2Proof

/-- Settles O5: the descriptor that makes the instruction agrees with it on the row, and has the row's cost. -/
theorem descriptorIsTheInstructionsRow : Obligations.DescriptorIsTheInstructionsRow := by
  unfold Obligations.DescriptorIsTheInstructionsRow
  intro i
  obtain ⟨op, operands, d, he, hd, hm, hcycles, hpenalty⟩ := encode_row i
  obtain ⟨hn, hmode, hbytes, -⟩ := (descriptorOf_agrees op d hd).of_makes hm
  refine ⟨op, operands, d, he, hd, hn.symm, hmode.symm, i.mode_mem_modes, ?_, hcycles, ?_, ?_⟩
  · rw [Descriptor.length, hbytes, he, List.length_cons, Nat.add_comm]
  · rw [hpenalty, i.penalty_eq_branch_iff]
  · rw [hpenalty, i.penalty_eq_pageCross_iff]

end Sys2Proof
end

/-! ## What an instruction leaves of the host: the mapping, the hook's replies, canonical memory (20 R40, R46, R48) -/

section
namespace Sys2Proof.Machine

/-- What an operation leaves of the host's side, whatever it reads and writes: the mapping, the replies the hook still has, and the
canonical form of memory. -/
structure Bus.Keeps (b b' : Bus) : Prop where
  mapped : b'.mapped = b.mapped
  hooks : b'.hooks = b.hooks
  memWf : b.mem.wf = true → b'.mem.wf = true

theorem Bus.keeps_refl (b : Bus) : b.Keeps b := ⟨rfl, rfl, id⟩

theorem Bus.keeps_of_eq {b b' : Bus} (h : b' = b) : b.Keeps b' := h ▸ b.keeps_refl

theorem Bus.keeps_of_mem {b b' : Bus} (hmapped : b'.mapped = b.mapped) (hhooks : b'.hooks = b.hooks)
    (hmem : b'.mem = b.mem) : b.Keeps b' :=
  ⟨hmapped, hhooks, fun hm => hmem ▸ hm⟩

theorem Bus.Keeps.trans {b b' b'' : Bus} (h : b.Keeps b') (h' : b'.Keeps b'') : b.Keeps b'' where
  mapped := h'.mapped.trans h.mapped
  hooks := h'.hooks.trans h.hooks
  memWf hm := h'.memWf (h.memWf hm)

variable (s : State)

/-! The operations that instructions are made of. -/

theorem State.busRead_keeps (a : Addr) : s.bus.Keeps (s.busRead a).2.bus :=
  Bus.keeps_of_mem (s.busRead_bus_mapped a) (s.busRead_bus_hooks a) (s.busRead_bus_mem a)

theorem State.busWrite_keeps (a : Addr) (v : Byte) : s.bus.Keeps (s.busWrite a v).bus :=
  ⟨s.busWrite_bus_mapped a v, s.busWrite_bus_hooks a v, s.busWrite_wf a v⟩

theorem State.read16_keeps (a : Addr) : s.bus.Keeps (s.read16 a).2.bus :=
  Bus.keeps_of_mem (s.read16_bus_mapped a) (s.read16_bus_hooks a) (s.read16_bus_mem a)

theorem State.push_keeps (v : Byte) : s.bus.Keeps (s.push v).bus :=
  ⟨s.push_bus_mapped v, s.push_bus_hooks v, s.push_wf v⟩

theorem State.pull_keeps : s.bus.Keeps s.pull.2.bus :=
  Bus.keeps_of_mem s.pull_bus_mapped s.pull_bus_hooks s.pull_bus_mem

theorem State.pushWord_keeps (w : Addr) : s.bus.Keeps (s.pushWord w).bus :=
  ⟨s.pushWord_bus_mapped w, s.pushWord_bus_hooks w, s.pushWord_wf w⟩

theorem State.pullWord_keeps : s.bus.Keeps s.pullWord.2.bus :=
  Bus.keeps_of_mem s.pullWord_bus_mapped s.pullWord_bus_hooks s.pullWord_bus_mem

theorem State.pullFlags_keeps : s.bus.Keeps s.pullFlags.bus :=
  Bus.keeps_of_mem s.pullFlags_bus_mapped s.pullFlags_bus_hooks s.pullFlags_bus_mem

theorem State.takeException_keeps (ret : Addr) (b4 : Bool) : s.bus.Keeps (s.takeException ret b4).bus :=
  ⟨s.takeException_bus_mapped ret b4, s.takeException_bus_hooks ret b4, s.takeException_wf ret b4⟩

theorem State.breakTo_keeps (vec ret : Addr) : s.bus.Keeps (s.breakTo vec ret).bus :=
  s.takeException_keeps ret true

theorem State.returnFromException_keeps : s.bus.Keeps s.returnFromException.bus :=
  Bus.keeps_of_mem s.returnFromException_bus_mapped s.returnFromException_bus_hooks s.returnFromException_bus_mem

theorem resolve_keeps (r : MemRef) : s.bus.Keeps (resolve r s).2.bus :=
  Bus.keeps_of_mem (resolve_bus_mapped s r) (resolve_bus_hooks s r) (resolve_bus_mem s r)

theorem resolveIndirect_keeps (w : Addr) : s.bus.Keeps (resolveIndirect w s).2.bus :=
  Bus.keeps_of_mem (resolveIndirect_bus_mapped s w) (resolveIndirect_bus_hooks s w) (resolveIndirect_bus_mem s w)

variable {s} {t : State} {op : Byte}

/-! The shapes of Operands.lean. -/

theorem onImmediate_keeps {use : Byte → State → State} {m : Byte} (h : onImmediate op use m s = .next t)
    (huse : ∀ m u, (use m u).bus = u.bus) : s.bus.Keeps t.bus := by
  cases h
  exact Bus.keeps_of_eq (huse m s)

theorem onRead_keeps {use : Byte → State → State} {r : MemRef} (h : onRead op use r s = .next t)
    (huse : ∀ m u, (use m u).bus = u.bus) : s.bus.Keeps t.bus := by
  cases h
  exact ((resolve_keeps s r).trans (State.busRead_keeps _ _)).trans (Bus.keeps_of_eq (huse _ _))

theorem onWrite_keeps {value : State → Byte} {r : MemRef} (h : onWrite op value r s = .next t) : s.bus.Keeps t.bus := by
  cases h
  exact (resolve_keeps s r).trans (State.busWrite_keeps _ _ _)

theorem onModify_keeps {f : AluOp} {r : MemRef} (h : onModify op f r s = .next t) : s.bus.Keeps t.bus := by
  cases h
  exact ((resolve_keeps s r).trans (State.busRead_keeps _ _)).trans (State.busWrite_keeps _ _ _)

theorem onImplied_keeps {use : State → State} (h : onImplied op use s = .next t) (huse : s.bus.Keeps (use s).bus) :
    s.bus.Keeps t.bus := by
  cases h
  exact huse

theorem onBranch_keeps {cond : Flags → Bool} {b : Byte} (h : onBranch op cond b s = .next t) : s.bus.Keeps t.bus := by
  rw [onBranch_eq] at h
  cases h
  split <;> exact s.bus.keeps_refl

/-- Every instruction but the two that consult the hook leaves its replies, with the rest of the host's side. -/
theorem exec_keeps {i : Instr} (h : exec i s = .next t) (hjsr : i.mnemonic ≠ .jsr) (hbrk : i.mnemonic ≠ .brk) :
    s.bus.Keeps t.bus := by
  cases i
  case jsr => exact absurd rfl hjsr
  case brk => exact absurd rfl hbrk
  case ldaImm | ldxImm | ldyImm | adcImm | sbcImm | andImm | oraImm | eorImm | cmpImm | cpxImm | cpyImm =>
    exact onImmediate_keeps h fun _ _ => rfl
  case ldaZp | ldaZpX | ldaAbs | ldaAbsX | ldaAbsY | ldaIndX | ldaIndY | ldxZp | ldxZpY | ldxAbs | ldxAbsY | ldyZp | ldyZpX
      | ldyAbs | ldyAbsX | adcZp | adcZpX | adcAbs | adcAbsX | adcAbsY | adcIndX | adcIndY | sbcZp | sbcZpX | sbcAbs
      | sbcAbsX | sbcAbsY | sbcIndX | sbcIndY | andZp | andZpX | andAbs | andAbsX | andAbsY | andIndX | andIndY | oraZp
      | oraZpX | oraAbs | oraAbsX | oraAbsY | oraIndX | oraIndY | eorZp | eorZpX | eorAbs | eorAbsX | eorAbsY | eorIndX
      | eorIndY | bitZp | bitAbs | cmpZp | cmpZpX | cmpAbs | cmpAbsX | cmpAbsY | cmpIndX | cmpIndY | cpxZp | cpxAbs | cpyZp
      | cpyAbs =>
    exact onRead_keeps h fun _ _ => rfl
  case staZp | staZpX | staAbs | staAbsX | staAbsY | staIndX | staIndY | stxZp | stxZpY | stxAbs | styZp | styZpX
      | styAbs =>
    exact onWrite_keeps h
  case incZp | incZpX | incAbs | incAbsX | decZp | decZpX | decAbs | decAbsX | aslZp | aslZpX | aslAbs | aslAbsX | lsrZp
      | lsrZpX | lsrAbs | lsrAbsX | rolZp | rolZpX | rolAbs | rolAbsX | rorZp | rorZpX | rorAbs | rorAbsX =>
    exact onModify_keeps h
  case tax | tay | txa | tya | tsx | txs | inx | iny | dex | dey | aslAcc | lsrAcc | rolAcc | rorAcc | clc | cld | cli | clv
      | sec | sed | sei | jmpAbs =>
    cases h
    exact s.bus.keeps_refl
  case nop => exact onImplied_keeps (exec_nop s ▸ h) s.bus.keeps_refl
  case bcc | bcs | beq | bmi | bne | bpl | bvc | bvs =>
    simp only [exec_bcc, exec_bcs, exec_beq, exec_bmi, exec_bne, exec_bpl, exec_bvc, exec_bvs] at h
    exact onBranch_keeps h
  case pha | php => exact onImplied_keeps h (s.push_keeps _)
  case pla => exact onImplied_keeps (exec_pla s ▸ h) s.pull_keeps
  case plp => exact onImplied_keeps h s.pullFlags_keeps
  case rti => exact onImplied_keeps h s.returnFromException_keeps
  case rts =>
    cases h
    exact s.pullWord_keeps
  case jmpInd w =>
    cases h
    exact resolveIndirect_keeps s w

/-! JSR and BRK take a reply of the hook, and with it the bytes that the reply changes (45 R190, R193). -/

theorem State.callHook_wf (s : State) (target source : Addr) (hm : s.bus.mem.wf = true) :
    (s.callHook target source).2.bus.mem.wf = true :=
  Memory.wf_writeAll hm _

theorem exec_jsr_keeps {w : Addr} (h : exec (.jsr w) s = .next t) :
    (s.callHook w (s.pc - 3#16)).2.bus.Keeps t.bus := by
  change execJsr w s = .next t at h
  unfold execJsr at h
  simp only at h
  split at h
  case h_1 =>
    cases h
    exact Bus.keeps_refl _
  case h_2 => cases h
  case h_3 =>
    cases h
    exact State.pushWord_keeps _ _

/-- BRK leaves the host's side as its vector reads left it, or as the hook did after them. -/
theorem exec_brk_keeps (h : exec .brk s = .next t) :
    ∃ u : State, s.bus.Keeps u.bus ∧ (u.bus.Keeps t.bus ∨ (u.callHook 0#16 (s.pc - 1#16)).2.bus.Keeps t.bus) := by
  change execBrk s = .next t at h
  unfold execBrk at h
  refine ⟨_, s.read16_keeps Vector.irq.addr, ?_⟩
  simp only at h
  split at h
  case isTrue =>
    refine .inr ?_
    split at h
    case h_1 =>
      cases h
      exact Bus.keeps_refl _
    case h_2 => cases h
    case h_3 =>
      cases h
      rw [State.charge_bus]
      exact State.breakTo_keeps _ _ _
  case isFalse =>
    cases h
    rw [State.charge_bus]
    exact .inl (State.breakTo_keeps _ _ _)

/-- Every instruction leaves the mapping, and memory in its canonical form. -/
theorem exec_mapped_and_wf {i : Instr} (h : exec i s = .next t) :
    t.bus.mapped = s.bus.mapped ∧ (s.bus.mem.wf = true → t.bus.mem.wf = true) := by
  by_cases hjsr : i.mnemonic = .jsr
  · cases i <;> cases hjsr
    have ht := exec_jsr_keeps h
    exact ⟨ht.mapped, fun hm => ht.memWf (s.callHook_wf _ _ hm)⟩
  by_cases hbrk : i.mnemonic = .brk
  · cases i <;> cases hbrk
    obtain ⟨u, hu, ht | ht⟩ := exec_brk_keeps h
    · exact ⟨(hu.trans ht).mapped, (hu.trans ht).memWf⟩
    · exact ⟨ht.mapped.trans hu.mapped, fun hm => ht.memWf (u.callHook_wf _ _ (hu.memWf hm))⟩
  have ht := exec_keeps h hjsr hbrk
  exact ⟨ht.mapped, ht.memWf⟩

end Sys2Proof.Machine
end

/-! ## What no instruction changes, and which move PC (40 R84, R92) -/

section
namespace Sys2Proof

open Sys2Proof.Machine

variable {i : Instr} {s t : State}

/-- No instruction changes the mode, the Status or the arguments. -/
theorem Machine.exec_mode_status_params (h : exec i s = .next t) :
    t.mode = s.mode ∧ t.status = s.status ∧ t.params = s.params := by
  cases exec_effect h with
  | acc _ _ regs | x _ _ regs | y _ _ regs | stack _ regs | jump _ regs =>
    obtain ⟨_, regs⟩ := regs
    exact ⟨regs.mode, regs.status, regs.params⟩
  | test _ regs | pullA _ regs | pullP _ regs | subroutine _ regs =>
    obtain ⟨_, _, regs⟩ := regs
    exact ⟨regs.mode, regs.status, regs.params⟩
  | exceptionReturn _ regs | exceptionEntry _ regs =>
    obtain ⟨_, _, _, regs⟩ := regs
    exact ⟨regs.mode, regs.status, regs.params⟩
  | flag _ regs | nothing regs => exact ⟨regs.mode, regs.status, regs.params⟩

/-- Settles O21: an effect on PC names the control transfers or the condition of a taken branch. -/
theorem pcStaysPastTheInstruction : Obligations.PcStaysPastTheInstruction := by
  unfold Obligations.PcStaysPastTheInstruction
  intro i s t h htransfer htaken
  cases exec_effect h with
  | acc _ _ regs | x _ _ regs | y _ _ regs | stack _ regs =>
    obtain ⟨_, regs⟩ := regs
    exact regs.pc
  | test _ regs | pullA _ regs | pullP _ regs =>
    obtain ⟨_, _, regs⟩ := regs
    exact regs.pc
  | flag _ regs | nothing regs => exact regs.pc
  | jump names _ =>
    obtain name | taken := names
    · exact absurd (by rw [name]; decide) htransfer
    · rw [htaken] at taken
      cases taken
  | subroutine names _ => exact absurd (List.Sublist.mem names (by decide)) htransfer
  | exceptionReturn name _ | exceptionEntry name _ => exact absurd (by rw [name]; decide) htransfer

end Sys2Proof
end

/-! ## The cycles of an instruction (40 R85, 70 R282) -/

section
namespace Sys2Proof

open Sys2Proof.Machine

variable {i : Instr} {s t : State} {op : Byte}

/-! The operand of the modes that can cross a page. -/

theorem Instr.memRef?_of_absX {w : Addr} (hmode : i.mode = .absX) (hoperand : i.operand = w.toNat) :
    i.memRef? = some (.absX w) := by
  simp [Instr.memRef?, hmode, hoperand]

theorem Instr.memRef?_of_absY {w : Addr} (hmode : i.mode = .absY) (hoperand : i.operand = w.toNat) :
    i.memRef? = some (.absY w) := by
  simp [Instr.memRef?, hmode, hoperand]

theorem Instr.memRef?_of_indY {b : Byte} (hmode : i.mode = .indY) (hoperand : i.operand = b.toNat) :
    i.memRef? = some (.indY b) := by
  simp [Instr.memRef?, hmode, hoperand]

theorem Instr.readOperand_cross {r : MemRef} (h : i.memRef? = some r) (s : State) :
    (i.readOperand s).cross = (resolve r s).1.cross := by
  simp only [Instr.readOperand, h]

/-! The bounds of a cycle count. -/

theorem Instr.baseCycles_bounds (i : Instr) : 2 ≤ i.baseCycles ∧
    i.baseCycles + (if i.mnemonic.isBranch then 2 else if i.mnemonic.paysForCrossing then 1 else 0) ≤ 7 := by
  cases i <;> exact ⟨Nat.le_of_ble_eq_true rfl, Nat.le_of_ble_eq_true rfl⟩

theorem Instr.cycleCount_bounds (i : Instr) (s : State) : 2 ≤ i.cycleCount s ∧ i.cycleCount s ≤ 7 := by
  obtain ⟨hlow, hhigh⟩ := i.baseCycles_bounds
  have hpage := Bool.toNat_le (pagesDiffer (branchTarget s.pc (BitVec.ofNat 8 i.operand)) s.pc)
  have hcross := Bool.toNat_le (i.readOperand s).cross
  unfold Instr.cycleCount
  simp only
  split
  case isTrue hbranch =>
    rw [if_pos hbranch] at hhigh
    split <;> omega
  case isFalse hbranch =>
    rw [if_neg hbranch] at hhigh
    split
    case isTrue hpays =>
      rw [if_pos hpays] at hhigh
      omega
    case isFalse => omega

namespace Machine

/-! What each shape of Operands.lean leaves owed. -/

theorem onImmediate_ticks {use : Byte → State → State} {m : Byte} (h : onImmediate op use m s = .next t) :
    t.ticks = cyclesOf op false false := by
  cases h
  rfl

theorem onRead_ticks {use : Byte → State → State} {r : MemRef} (h : onRead op use r s = .next t) :
    t.ticks = cyclesOf op (resolve r s).1.cross false := by
  cases h
  rfl

theorem onWrite_ticks {value : State → Byte} {r : MemRef} (h : onWrite op value r s = .next t) :
    t.ticks = cyclesOf op (resolve r s).1.cross false := by
  cases h
  rfl

theorem onModify_ticks {f : AluOp} {r : MemRef} (h : onModify op f r s = .next t) :
    t.ticks = cyclesOf op (resolve r s).1.cross false := by
  cases h
  rfl

/-- A read that pays for crossing a page (41 R111). -/
theorem onRead_ticks_of_paysForCrossing {use : Byte → State → State} {r : MemRef} (h : onRead op use r s = .next t)
    (href : i.memRef? = some r) (hpays : i.mnemonic.paysForCrossing = true)
    (hcost : ∀ cross, cyclesOf op cross false = i.baseCycles + cross.toNat) : t.ticks = i.cycleCount s := by
  have hbranch := Mnemonic.isBranch_eq_false_of_paysForCrossing hpays
  rw [onRead_ticks h, hcost, ← Instr.readOperand_cross href, Instr.cycleCount]
  simp only [hbranch, hpays, if_true, Bool.false_eq_true, if_false]

/-- A branch: one more where it is taken, and one more where its target is in another page (45 R180). -/
theorem onBranch_ticks {cond : Flags → Bool} {b : Byte} (h : onBranch op cond b s = .next t)
    (hbranch : i.mnemonic.isBranch = true) (hcond : i.mnemonic.condition s.p = cond s.p) (hoperand : i.operand = b.toNat)
    (hcost : ∀ cross taken, cyclesOf op cross taken = i.baseCycles + (taken.toNat + (taken && cross).toNat)) :
    t.ticks = i.cycleCount s := by
  rw [onBranch_eq] at h
  cases h
  simp only [Instr.cycleCount, hbranch, hcond, hoperand, BitVec.ofNat_toNat, BitVec.setWidth_eq, if_true]
  split <;> simp [hcost]

theorem exec_jsr_ticks {w : Addr} (h : exec (.jsr w) s = .next t) : t.ticks = 6 := by
  change execJsr w s = .next t at h
  unfold execJsr at h
  simp only at h
  split at h
  case h_1 | h_3 =>
    cases h
    exact cyclesOf_jsr false false
  case h_2 => cases h

theorem exec_brk_ticks (h : exec .brk s = .next t) : t.ticks = 7 := by
  change execBrk s = .next t at h
  unfold execBrk at h
  simp only at h
  split at h
  case isTrue =>
    split at h
    case h_1 | h_3 =>
      cases h
      exact cyclesOf_brk false false
    case h_2 => cases h
  case isFalse =>
    cases h
    exact cyclesOf_brk false false

theorem exec_ticks (h : exec i s = .next t) : t.ticks = i.cycleCount s := by
  cases i
  case ldaImm | ldxImm | ldyImm | adcImm | sbcImm | andImm | oraImm | eorImm | cmpImm | cpxImm | cpyImm =>
    exact onImmediate_ticks h
  case ldaAbsX | ldyAbsX | adcAbsX | sbcAbsX | andAbsX | oraAbsX | eorAbsX | cmpAbsX =>
    exact onRead_ticks_of_paysForCrossing h (Instr.memRef?_of_absX rfl rfl) rfl fun _ => rfl
  case ldaAbsY | ldxAbsY | adcAbsY | sbcAbsY | andAbsY | oraAbsY | eorAbsY | cmpAbsY =>
    exact onRead_ticks_of_paysForCrossing h (Instr.memRef?_of_absY rfl rfl) rfl fun _ => rfl
  case ldaIndY | adcIndY | sbcIndY | andIndY | oraIndY | eorIndY | cmpIndY =>
    exact onRead_ticks_of_paysForCrossing h (Instr.memRef?_of_indY rfl rfl) rfl fun _ => rfl
  case ldaZp | ldaZpX | ldaAbs | ldaIndX | ldxZp | ldxZpY | ldxAbs | ldyZp | ldyZpX | ldyAbs | adcZp | adcZpX | adcAbs
      | adcIndX | sbcZp | sbcZpX | sbcAbs | sbcIndX | andZp | andZpX | andAbs | andIndX | oraZp | oraZpX | oraAbs | oraIndX
      | eorZp | eorZpX | eorAbs | eorIndX | bitZp | bitAbs | cmpZp | cmpZpX | cmpAbs | cmpIndX | cpxZp | cpxAbs | cpyZp
      | cpyAbs =>
    exact onRead_ticks h
  case staZp | staZpX | staAbs | staAbsX | staAbsY | staIndX | staIndY | stxZp | stxZpY | stxAbs | styZp | styZpX
      | styAbs =>
    exact onWrite_ticks h
  case incZp | incZpX | incAbs | incAbsX | decZp | decZpX | decAbs | decAbsX | aslZp | aslZpX | aslAbs | aslAbsX | lsrZp
      | lsrZpX | lsrAbs | lsrAbsX | rolZp | rolZpX | rolAbs | rolAbsX | rorZp | rorZpX | rorAbs | rorAbsX =>
    exact onModify_ticks h
  case bcc | bcs | beq | bmi | bne | bpl | bvc | bvs =>
    simp only [exec_bcc, exec_bcs, exec_beq, exec_bmi, exec_bne, exec_bpl, exec_bvc, exec_bvs] at h
    exact onBranch_ticks h rfl rfl rfl fun _ _ => rfl
  case jsr => exact exec_jsr_ticks h
  case brk => exact exec_brk_ticks h
  -- the others have neither a memory operand nor a penalty, and their count is the table's
  all_goals
    cases h
    rfl

end Machine

/-- Settles O17: each opcode's row of the table is the instruction's base cycles and its penalty. -/
theorem cycleCountOfEveryInstruction : Obligations.CycleCountOfEveryInstruction := by
  unfold Obligations.CycleCountOfEveryInstruction
  exact fun _ _ _ => exec_ticks

/-- Settles O15: an instruction that does not run into the hook's Halt completes, and each clause is what it leaves alone. -/
theorem everyInstructionCompletes : Obligations.EveryInstructionCompletes := by
  unfold Obligations.EveryInstructionCompletes
  intro i s hhook
  obtain ⟨t, h⟩ := exec_completes fun (⟨halt, _⟩ : i.HaltsAt s) => hhook halt
  obtain ⟨hmode, hstatus, hparams⟩ := exec_mode_status_params h
  obtain ⟨hmapped, -⟩ := exec_mapped_and_wf h
  obtain ⟨hlow, hhigh⟩ := exec_ticks h ▸ i.cycleCount_bounds s
  exact ⟨t, h, hmode, hstatus, hparams, hmapped, hlow, hhigh, fun hjsr hbrk => (exec_keeps h hjsr hbrk).hooks⟩

end Sys2Proof
end

/-! ## Refused calls, and calls with cycles owed (40 R81, R82, R87, R88) -/

section
namespace Sys2Proof

open Sys2Proof.Machine

namespace Machine

variable {s : State}

theorem State.entryRefusal_of_strictStack (h : s.params.strictStack = true) : s.entryRefusal = some .strictStack := by
  simp only [State.entryRefusal, h, if_true]

theorem State.entryRefusal_of_faulted {k : FaultKind} (hstrict : s.params.strictStack = false)
    (hmode : s.mode = .faulted k) : s.entryRefusal = some .faultedMode := by
  simp only [State.entryRefusal, hstrict, hmode, Bool.false_eq_true, if_false]

theorem State.strict_or_faulted_of_entryRefusal {r : Refusal} (h : s.entryRefusal = some r) :
    s.params.strictStack = true ∨ ∃ k, s.mode = .faulted k := by
  unfold State.entryRefusal at h
  split at h
  case isTrue hstrict => exact .inl hstrict
  case isFalse =>
    split at h
    case h_1 k hmode => exact .inr ⟨k, hmode⟩
    case h_2 | h_3 => cases h

theorem tick_of_refused {r : Refusal} (h : s.entryRefusal = some r) : tick s = .refused r := by
  simp only [tick, h]

theorem stepCall_of_refused {r : Refusal} (h : s.entryRefusal = some r) : stepCall s = .refused r := by
  simp only [stepCall, h]

theorem run_succ_of_refused {r : Refusal} (h : s.entryRefusal = some r) (n : Nat) :
    run (n + 1) s = some (.refused r) := by
  simp only [run, stepCall_of_refused h]

theorem tick_of_owed (h : s.entryRefusal = none) (howed : 0 < s.ticks) :
    tick s = .next ((s.setTicks (s.ticks - 1)).setStatus .ok) := by
  simp only [tick, h, howed, if_true]

theorem stepCall_of_owed (h : s.entryRefusal = none) (howed : 0 < s.ticks) :
    stepCall s = .next ((s.setTicks 0).setStatus .ok) := by
  simp only [stepCall, h, howed, if_true]

theorem tick_of_idle (h : s.entryRefusal = none) (hidle : s.ticks = 0) :
    tick s = startInstruction (s.setMode .executing) := by
  simp only [tick, h, hidle, Nat.lt_irrefl, if_false]

theorem stepCall_of_idle (h : s.entryRefusal = none) (hidle : s.ticks = 0) : stepCall s = driveOut (tick s) := by
  simp only [stepCall, h, hidle, Nat.lt_irrefl, if_false]

/-- Once a call has started an instruction it is not refused, since no instruction is. -/
theorem startInstruction_ne_refused (s : State) (r : Refusal) : startInstruction s ≠ .refused r := by
  obtain ⟨hexec, -⟩ := onlyHookHaltStopsAnInstruction
  unfold startInstruction
  simp only
  split
  case h_1 i _ =>
    cases h : exec i ((fetch s).2.setPc (s.pc + BitVec.ofNat 16 (instrLength i))) with
    | next t => exact nofun
    | fault f => exact nofun
    | refused q => exact absurd h (hexec i _ q)
  case h_2 => exact nofun

theorem stepCall_ne_refused (h : s.entryRefusal = none) (r : Refusal) : stepCall s ≠ .refused r := by
  obtain hidle | howed := Nat.eq_zero_or_pos s.ticks
  · rw [stepCall_of_idle h hidle, tick_of_idle h hidle]
    cases hstart : startInstruction (s.setMode .executing) with
    | next t => exact nofun
    | fault f => exact nofun
    | refused q => exact absurd hstart (startInstruction_ne_refused _ q)
  · rw [stepCall_of_owed h howed]
    exact nofun

theorem stepCall_ticks {t : State} (h : stepCall s = .next t) : t.ticks = 0 := by
  obtain ⟨-, rfl⟩ | ⟨-, u, -, rfl⟩ := stepCall_cases h <;> rfl

end Machine

/-- Settles O49: what a call does with cycles owed, and the ticks that every step leaves. -/
theorem tickCountsDownAndStepFinishes : Obligations.TickCountsDownAndStepFinishes := by
  unfold Obligations.TickCountsDownAndStepFinishes
  refine ⟨fun s hstrict hmode howed => ?_, fun s t => stepCall_ticks⟩
  have h := (State.entryRefusal_eq_none s).2 ⟨hstrict, hmode⟩
  exact ⟨tick_of_owed h howed, stepCall_of_owed h howed⟩

/-- Settles O50: an entry point refuses before it does anything, and nothing refuses after that. -/
theorem refusedExactlyWhenFaultedOrStrict : Obligations.RefusedExactlyWhenFaultedOrStrict := by
  unfold Obligations.RefusedExactlyWhenFaultedOrStrict
  refine ⟨fun s n hstrict => ?_, fun s n k hstrict hmode => ?_, fun s r hrefused => ?_⟩
  · have h := State.entryRefusal_of_strictStack hstrict
    exact ⟨tick_of_refused h, stepCall_of_refused h, run_succ_of_refused h n⟩
  · have h := State.entryRefusal_of_faulted hstrict hmode
    exact ⟨tick_of_refused h, stepCall_of_refused h, run_succ_of_refused h n⟩
  · cases hentry : s.entryRefusal with
    | none => exact absurd hrefused (stepCall_ne_refused hentry r)
    | some q => exact State.strict_or_faulted_of_entryRefusal hentry

end Sys2Proof
end

/-! ## What a tick and a step leave (40 R81-R84, R86) -/

section
namespace Sys2Proof

open Sys2Proof.Machine

namespace Machine

variable {s t : State}

/-- How a tick or a step that answers a next state ends: with Ok and no fault, or with the illegal opcode of 40 R86. -/
inductive State.Ended (t : State) : Prop
  | ok (status : t.status = .ok) (mode : t.mode = .reset ∨ t.mode = .executing)
  | illegal (status : t.status = .illegal) (mode : t.mode = .faulted .illegal)

/-- What is kept by a call that runs at most one instruction. -/
structure State.Keeps (s t : State) : Prop where
  params : t.params = s.params
  memWf : s.bus.mem.wf = true → t.bus.mem.wf = true
  ticksBound : s.ticks ≤ 6 → t.ticks ≤ 6

theorem startInstruction_keeps (h : startInstruction s = .next t) : s.Keeps t := by
  obtain ⟨i, u, -, hexec, rfl⟩ | ⟨e, -, rfl⟩ := startInstruction_cases h
  · obtain ⟨-, -, hparams⟩ := exec_mode_status_params hexec
    obtain ⟨-, hwf⟩ := exec_mapped_and_wf hexec
    obtain ⟨-, hticks⟩ := exec_ticks hexec ▸ i.cycleCount_bounds _
    refine ⟨?_, fun hm => hwf ?_, fun _ => Nat.sub_le_of_le_add hticks⟩
    · simpa using hparams
    · simpa using hm
  · exact ⟨by simp [State.illegalAt], fun hm => by simpa [State.illegalAt] using hm, fun _ => Nat.zero_le 6⟩

theorem startInstruction_ended (hmode : s.mode = .executing) (h : startInstruction s = .next t) : t.Ended := by
  obtain ⟨i, u, -, hexec, rfl⟩ | ⟨e, -, rfl⟩ := startInstruction_cases h
  · obtain ⟨hu, -, -⟩ := exec_mode_status_params hexec
    exact .ok rfl (.inr (hu.trans ((fetch_mode s).trans hmode)))
  · exact .illegal rfl rfl

theorem tick_keeps (h : tick s = .next t) : s.Keeps t := by
  obtain ⟨-, -, ⟨-, rfl⟩ | ⟨-, hstart⟩⟩ := tick_cases h
  · exact ⟨rfl, id, (Nat.sub_le _ 1).trans⟩
  · obtain ⟨hparams, hwf, hticks⟩ := startInstruction_keeps hstart
    exact ⟨hparams, hwf, hticks⟩

theorem tick_ended (h : tick s = .next t) : t.Ended := by
  obtain ⟨-, hmode, ⟨-, rfl⟩ | ⟨-, hstart⟩⟩ := tick_cases h
  · exact .ok rfl hmode
  · exact startInstruction_ended rfl hstart

theorem stepCall_keeps (h : stepCall s = .next t) : s.Keeps t := by
  obtain ⟨-, rfl⟩ | ⟨-, u, htick, rfl⟩ := stepCall_cases h
  · exact ⟨rfl, id, fun _ => Nat.zero_le 6⟩
  · obtain ⟨hparams, hwf, -⟩ := tick_keeps htick
    exact ⟨hparams, hwf, fun _ => Nat.zero_le 6⟩

/-- A tick and a step are refused from a faulted mode (40 R88). -/
theorem stepCall_mode_of_next (h : stepCall s = .next t) : s.mode = .reset ∨ s.mode = .executing := by
  cases hr : s.entryRefusal with
  | some r => cases h.symm.trans (stepCall_of_refused hr)
  | none => exact ((State.entryRefusal_eq_none s).1 hr).2

theorem stepCall_ended (h : stepCall s = .next t) : t.Ended := by
  have hmode := stepCall_mode_of_next h
  obtain ⟨-, rfl⟩ | ⟨-, u, htick, rfl⟩ := stepCall_cases h
  · exact .ok rfl hmode
  · cases tick_ended htick with
    | ok status mode => exact .ok status mode
    | illegal status mode => exact .illegal status mode

theorem State.Ended.noStackFaultMode (h : t.Ended) : t.mode ≠ .faulted .stackFault := by
  cases h with
  | ok _ mode => obtain mode | mode := mode <;> rw [mode] <;> exact nofun
  | illegal _ mode =>
    rw [mode]
    exact nofun

theorem State.Ended.noStackFaultStatus (h : t.Ended) : t.status ≠ .stackFault := by
  cases h with
  | ok status _ | illegal status _ =>
    rw [status]
    exact nofun

/-- A call that keeps memory and the bound of the ticks, and ends as a tick does, keeps the invariant. -/
theorem State.Inv.of_ended (hinv : s.Inv) (hkeeps : s.Keeps t) (hended : t.Ended) : t.Inv where
  memWf := hkeeps.memWf hinv.memWf
  ticksBound := hkeeps.ticksBound hinv.ticksBound
  noStackFaultMode := hended.noStackFaultMode
  noStackFaultStatus := hended.noStackFaultStatus

end Machine

/-- Settles O58: one tick from any state with canonical memory leaves it canonical, and a step ends Ok or Illegal. -/
theorem stepKeepsTheInvariant : Obligations.StepKeepsTheInvariant := by
  unfold Obligations.StepKeepsTheInvariant
  exact fun s t hinv h => hinv.of_ended (stepCall_keeps h) (stepCall_ended h)

/-- Settles O51: by induction on the fuel, each step of which ends Ok, and goes on, or Illegal. -/
theorem runNeverReturnsOk : Obligations.RunNeverReturnsOk := by
  unfold Obligations.RunNeverReturnsOk
  intro n
  induction n with
  | zero =>
    intro s r h
    cases h
  | succ n ih =>
    intro s r h
    cases hstep : stepCall s with
    | next t =>
      cases stepCall_ended hstep with
      | ok status _ =>
        simp only [run, hstep, status] at h
        exact ih t r h
      | illegal status mode =>
        simp only [run, hstep, status] at h
        cases h
        exact .inl ⟨t, rfl, status, mode⟩
    | fault f =>
      simp only [run, hstep] at h
      cases h
      cases f
      exact .inr (.inl rfl)
    | refused q =>
      simp only [run, hstep] at h
      cases h
      exact .inr (.inr ⟨q, rfl⟩)

end Sys2Proof
end

/-! ## Every call of the host (60 R255, 10 R34) -/

section
namespace Sys2Proof

open Sys2Proof.Machine

namespace Machine

variable {s t : State} {c : HostCall}

/-- What every call but tick, step and reset() leaves alone: the driver's own fields, the arguments and canonical memory. -/
structure State.DriverKept (s t : State) : Prop where
  ticks : t.ticks = s.ticks
  mode : t.mode = s.mode
  status : t.status = s.status
  params : t.params = s.params
  memWf : s.bus.mem.wf = true → t.bus.mem.wf = true

theorem State.DriverKept.inv (h : s.DriverKept t) (hinv : s.Inv) : t.Inv where
  memWf := h.memWf hinv.memWf
  ticksBound := h.ticks ▸ hinv.ticksBound
  noStackFaultMode := h.mode ▸ hinv.noStackFaultMode
  noStackFaultStatus := h.status ▸ hinv.noStackFaultStatus

theorem State.driverKept_refl (s : State) : s.DriverKept s := ⟨rfl, rfl, rfl, rfl, id⟩

theorem State.enter_driverKept (s : State) (v : Vector) : s.DriverKept (s.enter v) :=
  ⟨s.enter_ticks v, s.enter_mode v, s.enter_status v, s.enter_params v, s.enter_wf v⟩

theorem nmiCall_driverKept (h : nmiCall s = .next t) : s.DriverKept t := by
  unfold nmiCall at h
  split at h
  case isTrue => cases h
  case isFalse =>
    cases h
    exact s.enter_driverKept .nmi

theorem irqCall_driverKept (h : irqCall s = .next t) : s.DriverKept t := by
  unfold irqCall at h
  split at h
  case isTrue => cases h
  case isFalse =>
    cases h
    split
    case isTrue => exact s.driverKept_refl
    case isFalse => exact s.enter_driverKept .irq

theorem getVector_driverKept (s : State) (v : Vector) : s.DriverKept (getVector v s).2 :=
  ⟨s.read16_ticks _, s.read16_mode _, s.read16_status _, s.read16_params _, (s.read16_keeps _).memWf⟩

theorem setVector_driverKept (s : State) (v : Vector) (w : Addr) : s.DriverKept (setVector v w s) :=
  have regs := setVector_sameRegisters s v w
  ⟨setVector_ticks s v w, regs.mode, regs.status, regs.params, setVector_wf s v w⟩

theorem disassemble_driverKept (s : State) (a : Addr) : s.DriverKept (disassemble a s).2 :=
  ⟨s.readInstruction_ticks a, s.readInstruction_mode a, s.readInstruction_status a, s.readInstruction_params a,
    fun hm => (s.readInstruction_bus_mem a).symm ▸ hm⟩

theorem State.writeRegisters_driverKept (s : State) (r : RegFile) : s.DriverKept (s.writeRegisters r) :=
  ⟨rfl, rfl, rfl, rfl, id⟩

theorem State.poke_driverKept (s : State) (a : Addr) (v : Byte) : s.DriverKept (s.poke a v) :=
  ⟨rfl, rfl, rfl, rfl, s.poke_wf a v⟩

theorem State.configureBus_driverKept (s : State) (mapped : List Range) (answers : List Byte) (hooks : List HookReply) :
    s.DriverKept (s.configureBus mapped answers hooks) :=
  ⟨rfl, rfl, rfl, rfl, id⟩

theorem resetCall_inv (hinv : s.Inv) : (resetCall s).Inv where
  memWf := (resetCall_bus_mem s).symm ▸ hinv.memWf
  ticksBound := resetCall_ticks s ▸ Nat.zero_le 6
  noStackFaultMode := resetCall_mode s ▸ nofun
  noStackFaultStatus := (resetCall_status s).symm ▸ hinv.noStackFaultStatus

/-- What a call that is not refused did: an entry point of the driver, a reset, or something that leaves the driver alone. -/
theorem perform_cases (h : perform c s = .next t) :
    (c = .tick ∧ Machine.tick s = .next t) ∨ (c = .step ∧ stepCall s = .next t) ∨ (c = .reset ∧ t = resetCall s) ∨
      (c ≠ .reset ∧ s.DriverKept t) := by
  cases c
  case tick => exact .inl ⟨rfl, h⟩
  case step => exact .inr (.inl ⟨rfl, h⟩)
  case reset =>
    cases h
    exact .inr (.inr (.inl ⟨rfl, rfl⟩))
  all_goals refine .inr (.inr (.inr ⟨nofun, ?_⟩))
  case nmi => exact nmiCall_driverKept h
  case irq => exact irqCall_driverKept h
  case getVector v =>
    cases h
    exact getVector_driverKept s v
  case setVector v w =>
    cases h
    exact setVector_driverKept s v w
  case disassemble a =>
    cases h
    exact disassemble_driverKept s a
  case writeRegisters r =>
    cases h
    exact s.writeRegisters_driverKept r
  case writeMemory a v =>
    cases h
    exact s.poke_driverKept a v
  case configureBus mapped answers hooks =>
    cases h
    exact s.configureBus_driverKept mapped answers hooks

end Machine

/-- Settles O59: an entry point ends as a tick does, reset() starts over, and no other call touches the driver's fields. -/
theorem everyHostCallKeepsTheInvariant : Obligations.EveryHostCallKeepsTheInvariant := by
  unfold Obligations.EveryHostCallKeepsTheInvariant
  intro c s t hinv h
  obtain ⟨-, htick⟩ | ⟨-, hstep⟩ | ⟨-, rfl⟩ | ⟨-, hkept⟩ := perform_cases h
  · exact ⟨hinv.of_ended (tick_keeps htick) (tick_ended htick), (tick_keeps htick).params⟩
  · exact ⟨hinv.of_ended (stepCall_keeps hstep) (stepCall_ended hstep), (stepCall_keeps hstep).params⟩
  · exact ⟨resetCall_inv hinv, resetCall_params s⟩
  · exact ⟨hkept.inv hinv, hkept.params⟩

/-- Settles O60: from a faulted mode the entry points are refused, and the calls that are not leave the mode. -/
theorem onlyResetLeavesAFaultedMode : Obligations.OnlyResetLeavesAFaultedMode := by
  unfold Obligations.OnlyResetLeavesAFaultedMode
  intro c s t k hmode h
  have hentry : ¬(s.mode = .reset ∨ s.mode = .executing) := by
    rw [hmode]
    exact nofun
  obtain ⟨-, htick⟩ | ⟨-, hstep⟩ | ⟨rfl, rfl⟩ | ⟨hc, hkept⟩ := perform_cases h
  · obtain ⟨-, hm, -⟩ := tick_cases htick
    exact absurd hm hentry
  · exact absurd (stepCall_mode_of_next hstep) hentry
  · exact ⟨(absurd rfl ·), fun _ => resetCall_mode s⟩
  · exact ⟨fun _ => hkept.mode.trans hmode, (absurd · hc)⟩

end Sys2Proof
end

/-! ## What a step fetches (40 R84, R86) -/

section
namespace Sys2Proof

open Sys2Proof.Machine

theorem encode_length (i : Instr) : (encode i).length = instrLength i := by
  obtain ⟨op, operands, d, he, hd, hm, -, -⟩ := encode_row i
  obtain ⟨-, hmode, hbytes, -⟩ := (descriptorOf_agrees op d hd).of_makes hm
  rw [he, List.length_cons, instrLength, hmode, hbytes, Nat.add_comm]

namespace Machine

variable {s : State}

theorem State.hostAnswer_setMode (s : State) (m : Mode) :
    (s.setMode m).hostAnswer = (s.hostAnswer.1, s.hostAnswer.2.setMode m) := by
  unfold State.hostAnswer
  rw [State.setMode_bus]
  split <;> rfl

/-- A read of the Bus does not look at the mode. -/
theorem State.busRead_setMode (s : State) (m : Mode) (a : Addr) :
    (s.setMode m).busRead a = ((s.busRead a).1, (s.busRead a).2.setMode m) := by
  unfold State.busRead
  rw [State.setMode_bus]
  split
  case isTrue => exact (s.noteCall (.read a)).hostAnswer_setMode m
  case isFalse => rfl

theorem State.setMode_illegalAt (s : State) (m : Mode) (pc0 : Addr) : (s.setMode m).illegalAt pc0 = s.illegalAt pc0 := rfl

theorem State.illegalAt_of_idle (h : s.ticks = 0) (pc0 : Addr) :
    s.illegalAt pc0 = { s with pc := pc0 + 1#16, mode := .faulted .illegal, status := .illegal } := by
  cases s
  cases h
  rfl

theorem State.setTicks_of_eq {n : Nat} (h : s.ticks = n) : s.setTicks n = s := by
  cases s
  cases h
  rfl

/-- After an opcode without a descriptor nothing more is read (40 R86). -/
theorem fetch_illegal (h : descriptorOf (s.busRead s.pc).1 = none) :
    fetch s = (.error (.illegalOpcode (s.busRead s.pc).1), (s.busRead s.pc).2) := by
  simp only [fetch, State.readInstruction, h, decode]

theorem startInstruction_illegal (h : descriptorOf (s.busRead s.pc).1 = none) :
    startInstruction s = .next ((s.busRead s.pc).2.illegalAt s.pc) := by
  simp only [startInstruction, fetch_illegal h]

/-- What a tick that meets an illegal opcode leaves, in the words of 40 R86. -/
theorem tick_illegal (h : s.entryRefusal = none) (hidle : s.ticks = 0) (hop : descriptorOf (s.busRead s.pc).1 = none) :
    tick s = .next { (s.busRead s.pc).2 with pc := s.pc + 1#16, mode := .faulted .illegal, status := .illegal } := by
  have hread := s.busRead_setMode .executing s.pc
  have hticks := (s.busRead_ticks s.pc).trans hidle
  rw [tick_of_idle h hidle, startInstruction_illegal (by rw [State.setMode_pc, hread, hop]), State.setMode_pc, hread,
    State.setMode_illegalAt, State.illegalAt_of_idle hticks]

end Machine

/-- Settles O48: an illegal byte has no descriptor, so its own read is all that the fetch makes. -/
theorem illegalOpcodeStep : Obligations.IllegalOpcodeStep := by
  unfold Obligations.IllegalOpcodeStep
  intro s hstrict hmode hidle hop
  have hentry := (State.entryRefusal_eq_none s).2 ⟨hstrict, hmode⟩
  have htick := tick_illegal hentry hidle ((descriptorOf_eq_none_iff _).2 hop)
  have hticks := (s.busRead_ticks s.pc).trans hidle
  refine ⟨htick, ?_, hticks, s.busRead_a _, s.busRead_x _, s.busRead_y _, s.busRead_sp _, s.busRead_p _, s.busRead_peek _,
    s.busRead_bus_hooks _, s.busRead_bus_calls _⟩
  rw [step, stepCall_of_idle hentry hidle, htick]
  exact congrArg Host.Outcome.next (State.setTicks_of_eq hticks)

/-- Settles O47: the fetch brings in the instruction and its bytes' reads, and the driver only sets ticks and the Status. -/
theorem stepRunsTheDecodedInstruction : Obligations.StepRunsTheDecodedInstruction := by
  unfold Obligations.StepRunsTheDecodedInstruction
  intro s i rest hstrict hmode hidle h0 h1 h2 hdecode
  have hentry := (State.entryRefusal_eq_none s).2 ⟨hstrict, hmode⟩
  have hfetch := fetch_plain (s := s.setMode .executing) h0 h1 h2 hdecode
  have htick := tick_of_idle hentry hidle
  simp only [startInstruction, hfetch, ← encode_length] at htick
  refine ⟨fun t ht => ?_, fun f hf => ?_⟩
  · replace htick := htick.trans (congrArg payTick ht)
    rw [step, stepCall_of_idle hentry hidle, htick]
    exact ⟨rfl, rfl⟩
  · replace htick := htick.trans (congrArg payTick hf)
    rw [step, stepCall_of_idle hentry hidle, htick]
    exact ⟨rfl, rfl⟩

end Sys2Proof
end

/-! ## The effective address of a memory operand (41 R104-R110) -/

section
namespace Sys2Proof

open Sys2Proof.Machine

theorem zext16_toNat (b : Byte) : (zext16 b).toNat = b.toNat :=
  BitVec.toNat_setWidth_of_le (by decide)

/-- A page-0 address in the spelling of the obligations. -/
theorem zext16_eq_ofNat (b : Byte) : zext16 b = BitVec.ofNat 16 b.toNat := by
  rw [← zext16_toNat, BitVec.ofNat_toNat, BitVec.setWidth_eq]

namespace Machine

theorem pagesDiffer_eq (a b : Addr) : pagesDiffer a b = decide (a.toNat / 256 ≠ b.toNat / 256) := by
  simp only [pagesDiffer, ne_eq, ← hiByte_toNat, BitVec.toNat_inj]

theorem indexed_ea_toNat (base : Addr) (index : Byte) :
    (indexed base index).ea.toNat = (base.toNat + index.toNat) % 65536 := by
  rw [indexed, BitVec.toNat_add, zext16_toNat]

theorem indexed_cross (base : Addr) (index : Byte) :
    (indexed base index).cross = decide ((base.toNat + index.toNat) % 65536 / 256 ≠ base.toNat / 256) := by
  rw [← indexed_ea_toNat, ← pagesDiffer_eq]
  rfl

variable {s : State} {b : Byte}

theorem resolve_indX_plain (hlow : s.bus.isMapped (zext16 (b + s.x)) = false)
    (hhigh : s.bus.isMapped (zext16 (b + s.x + 1#8)) = false) :
    resolve (.indX b) s =
      (⟨word (s.peek (zext16 (b + s.x + 1#8))) (s.peek (zext16 (b + s.x))), false⟩,
        (s.noteCall (.read (zext16 (b + s.x)))).noteCall (.read (zext16 (b + s.x + 1#8)))) := by
  simp only [resolve, s.zpPointer_plain hlow hhigh]

theorem resolve_indY_plain (hlow : s.bus.isMapped (zext16 b) = false)
    (hhigh : s.bus.isMapped (zext16 (b + 1#8)) = false) :
    resolve (.indY b) s =
      (indexed (word (s.peek (zext16 (b + 1#8))) (s.peek (zext16 b))) s.y,
        (s.noteCall (.read (zext16 b))).noteCall (.read (zext16 (b + 1#8)))) := by
  simp only [resolve, s.zpPointer_plain hlow hhigh, State.noteCall_y]

end Machine

/-- Settles O12: an indexed byte wraps in page 0, and an indexed word is the sum of `indexed`. -/
theorem directEffectiveAddresses : Obligations.DirectEffectiveAddresses := by
  unfold Obligations.DirectEffectiveAddresses
  intro s b w
  have hpage0 (index : Byte) : (zext16 (b + index)).toNat = (b.toNat + index.toNat) % 256 := by
    rw [zext16_toNat, BitVec.toNat_add]
  exact ⟨⟨zext16_toNat b, rfl, rfl⟩, ⟨hpage0 s.x, rfl, rfl⟩, ⟨hpage0 s.y, rfl, rfl⟩, rfl,
    ⟨indexed_ea_toNat w s.x, indexed_cross w s.x, rfl⟩, ⟨indexed_ea_toNat w s.y, indexed_cross w s.y, rfl⟩⟩

/-- Settles O13: both modes read a pointer in page 0, whose second byte wraps, and only (zp),Y then adds an index. -/
theorem pointerEffectiveAddresses : Obligations.PointerEffectiveAddresses := by
  unfold Obligations.PointerEffectiveAddresses
  intro s b
  refine ⟨?_, ?_⟩
  · have hp : BitVec.ofNat 16 ((b.toNat + s.x.toNat) % 256) = zext16 (b + s.x) := by
      rw [zext16_eq_ofNat, BitVec.toNat_add]
    have hq : BitVec.ofNat 16 ((b.toNat + s.x.toNat + 1) % 256) = zext16 (b + s.x + 1#8) := by
      rw [zext16_eq_ofNat, BitVec.toNat_add, BitVec.toNat_add, Nat.mod_add_mod]
      rfl
    simp only [hp, hq]
    intro hlow hhigh
    rw [resolve_indX_plain hlow hhigh]
    exact ⟨word_toNat _ _, rfl, rfl⟩
  · have hq : BitVec.ofNat 16 ((b.toNat + 1) % 256) = zext16 (b + 1#8) := by
      rw [zext16_eq_ofNat, BitVec.toNat_add]
      rfl
    simp only [← zext16_eq_ofNat, hq]
    intro hlow hhigh
    rw [resolve_indY_plain hlow hhigh, ← word_toNat]
    exact ⟨indexed_ea_toNat _ _, indexed_cross _ _, rfl⟩

end Sys2Proof
end

/-! ## Reading an operand (41 R114, R115) -/

section
namespace Sys2Proof

open Sys2Proof.Machine

variable {i : Instr} {s : State} {r : MemRef}

theorem Machine.resolve_sameRegisters (s : State) (r : MemRef) : s.SameRegisters (resolve r s).2 := by
  constructor <;> simp

theorem Instr.readOperand_of_memRef? (h : i.memRef? = some r) : i.readOperand s =
    ⟨((resolve r s).2.busRead (resolve r s).1.ea).1, (resolve r s).1.cross,
      ((resolve r s).2.busRead (resolve r s).1.ea).2⟩ := by
  simp only [Instr.readOperand, h]

theorem Instr.readOperand_of_no_memRef? (h : i.memRef? = none) :
    i.readOperand s = ⟨BitVec.ofNat 8 i.operand, false, s⟩ := by
  simp only [Instr.readOperand, h]

theorem Instr.effective_of_memRef? (h : i.memRef? = some r) : i.effective s = [(resolve r s).1.ea] := by
  simp only [Instr.effective, h]

theorem Instr.mem_effective_iff {ea : Addr} :
    ea ∈ i.effective s ↔ ∃ r, i.memRef? = some r ∧ ea = (resolve r s).1.ea := by
  cases h : i.memRef? with
  | none => simp [Instr.effective, h]
  | some r => simp [Instr.effective, h]

/-- Settles O14: an operand is resolved and then read, and neither writes a register or a byte of memory. -/
theorem operandReadFrame : Obligations.OperandReadFrame := by
  unfold Obligations.OperandReadFrame
  intro i s
  cases h : i.memRef? with
  | none =>
    rw [Instr.readOperand_of_no_memRef? h]
    refine ⟨by constructor <;> rfl, fun _ => rfl, rfl, rfl, rfl, fun ea hea => ?_⟩
    obtain ⟨r, hr, -⟩ := Instr.mem_effective_iff.1 hea
    cases h.symm.trans hr
  | some r =>
    rw [Instr.readOperand_of_memRef? h, Instr.effective_of_memRef? h]
    refine ⟨(resolve_sameRegisters s r).trans (State.busRead_sameRegisters _ _), State.peek_congr (by simp),
      by simp, by simp, by simp, fun ea hea hplain => ?_⟩
    cases List.mem_singleton.1 hea
    simp [hplain]

end Sys2Proof
end

/-! ## The Bus calls of each operand class (41 R114, 20 R47, R48) -/

section
namespace Sys2Proof

open Sys2Proof.Machine

variable {i : Instr} {r : MemRef}

/-- Resolving a memory operand makes the Bus calls of its pointer reads and no other. -/
theorem Instr.resolve_bus_calls (h : i.memRef? = some r) (s : State) :
    (resolve r s).2.bus.calls = i.pointerReads s ++ s.bus.calls := by
  cases r <;> simp [Instr.pointerReads, h, resolve]

/-! The arm of each class: what is left of the instructions, once those of other classes and those without a memory operand
are ruled out. -/

theorem Instr.exec_of_isRead (hclass : i.mnemonic.isRead = true) (h : i.memRef? = some r) :
    ∃ op use, (∀ s, exec i s = onRead op use r s) ∧ ∀ m u, (use m u).bus = u.bus := by
  cases i <;> cases hclass <;> cases h
  all_goals simp only [Instr.operand, BitVec.ofNat_toNat, BitVec.setWidth_eq]
  case bitZp | bitAbs => exact ⟨_, fun m t => t.testOp .bit t.a m, fun _ => rfl, fun _ _ => rfl⟩
  case cmpZp | cmpZpX | cmpAbs | cmpAbsX | cmpAbsY | cmpIndX | cmpIndY =>
    exact ⟨_, fun m t => t.testOp .cmp t.a m, fun _ => rfl, fun _ _ => rfl⟩
  case cpxZp | cpxAbs => exact ⟨_, fun m t => t.testOp .cmp t.x m, fun _ => rfl, fun _ _ => rfl⟩
  case cpyZp | cpyAbs => exact ⟨_, fun m t => t.testOp .cmp t.y m, fun _ => rfl, fun _ _ => rfl⟩
  -- the loads, arithmetic and logic: A, X or Y from the alu
  all_goals exact ⟨_, _, fun _ => rfl, fun _ _ => rfl⟩

theorem Instr.exec_of_storedRegister {s : State} {v : Byte} (hclass : i.mnemonic.storedRegister s = some v)
    (h : i.memRef? = some r) : ∃ op value, exec i s = onWrite op value r s ∧ value (resolve r s).2 = v := by
  cases i <;> cases hclass <;> cases h
  all_goals
    simp only [Instr.operand, BitVec.ofNat_toNat, BitVec.setWidth_eq]
    exact ⟨_, _, rfl, by simp⟩

theorem Instr.exec_of_isRmw (hclass : i.mnemonic.isRmw = true) (h : i.memRef? = some r) :
    ∃ op f, ∀ s, exec i s = onModify op f r s := by
  cases i <;> cases hclass <;> cases h
  all_goals
    simp only [Instr.operand, BitVec.ofNat_toNat, BitVec.setWidth_eq]
    exact ⟨_, _, fun _ => rfl⟩

/-- An immediate operand comes with the fetch, and the accumulator is a register. -/
theorem Instr.exec_bus_of_imm_or_acc (h : i.mode = .imm ∨ i.mode = .acc) (s : State) :
    ∃ t, exec i s = .next t ∧ t.bus = s.bus := by
  obtain himm | hacc := h
  · cases i <;> cases himm
    all_goals exact ⟨_, rfl, rfl⟩
  · cases i <;> cases hacc
    all_goals exact ⟨_, rfl, rfl⟩

/-- Settles O22: the calls of a class are those of its shape, after the pointer reads of the operand. -/
theorem busCallsOfEachOperandClass : Obligations.BusCallsOfEachOperandClass := by
  unfold Obligations.BusCallsOfEachOperandClass
  refine fun i s => ⟨fun ea hea => ?_, fun hmode => Instr.exec_bus_of_imm_or_acc hmode s⟩
  obtain ⟨r, href, rfl⟩ := Instr.mem_effective_iff.1 hea
  have hcalls := Instr.resolve_bus_calls href s
  refine ⟨fun hclass => ?_, fun v hclass => ?_, fun hclass => ?_⟩
  · obtain ⟨op, use, harm, huse⟩ := Instr.exec_of_isRead hclass href
    refine ⟨_, (harm s).trans (onRead_eq ..), ?_⟩
    rw [State.charge_bus, huse, State.busRead_bus_calls, hcalls]
  · obtain ⟨op, value, harm, rfl⟩ := Instr.exec_of_storedRegister hclass href
    refine ⟨_, harm.trans (onWrite_eq ..), ?_⟩
    rw [State.charge_bus, State.busWrite_bus_calls, hcalls]
  · obtain ⟨op, f, harm⟩ := Instr.exec_of_isRmw hclass href
    refine ⟨_, (alu f 0#8 ((resolve r s).2.busRead (resolve r s).1.ea).1 s.p).1, (harm s).trans (onModify_eq ..), ?_⟩
    rw [State.charge_bus, State.setP_bus, State.busWrite_bus_calls, State.busRead_bus_calls, hcalls]

end Sys2Proof
end

/-! ## What JSR and BRK can do (45 R190, R193) -/

section
namespace Sys2Proof.Machine

variable {s t : State}

/-- JSR that completes: the hook resumed at an address, or it fell through to the ordinary call. -/
theorem exec_jsr_cases {w : Addr} (h : exec (.jsr w) s = .next t) :
    (∃ a, s.bus.nextReply.answer.result = .resume a ∧
      t = ((s.callHook w (s.pc - 3#16)).2.setPc a).charge 0x20#8 false false) ∨
    (s.bus.nextReply.answer.result = .fallthrough ∧
      t = ((s.callHook w (s.pc - 3#16)).2.callSubroutine w).charge 0x20#8 false false) := by
  change execJsr w s = .next t at h
  unfold execJsr at h
  simp only at h
  split at h
  case h_1 a hanswer =>
    cases h
    exact .inl ⟨a, hanswer, rfl⟩
  case h_2 => cases h
  case h_3 hanswer =>
    cases h
    exact .inr ⟨hanswer, rfl⟩

/-- BRK that completes: a zero vector had the hook resume at an address or fall through, or the hook was not consulted. -/
theorem exec_brk_cases (h : exec .brk s = .next t) :
    (∃ a, (s.read16 Vector.irq.addr).1 = 0#16 ∧ s.params.brkZeroHook = true ∧
      s.bus.nextReply.answer.result = .resume a ∧
      t = (((s.read16 Vector.irq.addr).2.callHook 0#16 (s.pc - 1#16)).2.setPc a).charge 0x00#8 false false) ∨
    ((s.read16 Vector.irq.addr).1 = 0#16 ∧ s.params.brkZeroHook = true ∧
      s.bus.nextReply.answer.result = .fallthrough ∧
      t = (((s.read16 Vector.irq.addr).2.callHook 0#16 (s.pc - 1#16)).2.breakTo (s.read16 Vector.irq.addr).1
        (s.pc - 1#16 + 2#16)).charge 0x00#8 false false) ∨
    (¬((s.read16 Vector.irq.addr).1 = 0#16 ∧ s.params.brkZeroHook = true) ∧
      t = ((s.read16 Vector.irq.addr).2.breakTo (s.read16 Vector.irq.addr).1 (s.pc - 1#16 + 2#16)).charge 0x00#8
        false false) := by
  change execBrk s = .next t at h
  unfold execBrk at h
  simp only at h
  split at h
  case isTrue consults =>
    obtain ⟨hvector, hparam⟩ := consults
    split at h
    case h_1 a hanswer =>
      rw [State.callHook_result, State.read16_nextReply] at hanswer
      cases h
      exact .inl ⟨a, hvector, hparam, hanswer, rfl⟩
    case h_2 => cases h
    case h_3 hanswer =>
      rw [State.callHook_result, State.read16_nextReply] at hanswer
      cases h
      exact .inr (.inl ⟨hvector, hparam, hanswer, rfl⟩)
  case isFalse =>
    cases h
    exact .inr (.inr ⟨‹_›, rfl⟩)

end Sys2Proof.Machine
end

/-! ## Which bytes of memory an instruction changes (41 R114, 20 R48) -/

section
namespace Sys2Proof

open Sys2Proof.Machine

namespace Machine

variable {s t u : State} {op : Byte} {stored : List Addr}

theorem State.sameMemoryExcept_of_mem (h : t.bus.mem = s.bus.mem) (stored : List Addr) : s.SameMemoryExcept stored t :=
  fun x _ => State.peek_congr h x

/-- What was done before on the same memory changes nothing of a frame. -/
theorem State.SameMemoryExcept.of_mem (h : u.SameMemoryExcept stored t) (hmem : u.bus.mem = s.bus.mem) :
    s.SameMemoryExcept stored t :=
  fun x hx => (h x hx).trans (State.peek_congr hmem x)

/-- A hook that changes no byte leaves the memory list. -/
theorem State.callHook_bus_mem_of_no_writes (h : s.bus.nextReply.writes = []) (target source : Addr) :
    (s.callHook target source).2.bus.mem = s.bus.mem := by
  rw [State.callHook_bus_mem, h, Memory.writeAll]

theorem State.SameMemoryExcept.charge (h : s.SameMemoryExcept stored t) (op : Byte) (cross taken : Bool) :
    s.SameMemoryExcept stored (t.charge op cross taken) := h

theorem State.callSubroutine_sameMemoryExcept (s : State) (w : Addr) :
    s.SameMemoryExcept [stackAddr s.sp, stackAddr (s.sp - 1#8)] (s.callSubroutine w) := by
  intro x hx
  simp only [List.mem_cons, List.not_mem_nil, or_false, not_or] at hx
  obtain ⟨h0, h1⟩ := hx
  exact s.pushWord_peek_other _ h0 h1

theorem State.breakTo_sameMemoryExcept (s : State) (vec ret : Addr) :
    s.SameMemoryExcept [stackAddr s.sp, stackAddr (s.sp - 1#8), stackAddr (s.sp - 2#8)] (s.breakTo vec ret) := by
  intro x hx
  simp only [List.mem_cons, List.not_mem_nil, or_false, not_or] at hx
  obtain ⟨h0, h1, h2⟩ := hx
  exact s.takeException_peek_other ret true h0 h1 h2

/-! The shapes of Operands.lean. -/

theorem onRead_bus_mem {use : Byte → State → State} {r : MemRef} (h : onRead op use r s = .next t)
    (huse : ∀ m u, (use m u).bus = u.bus) : t.bus.mem = s.bus.mem := by
  cases h
  rw [State.charge_bus, huse, State.busRead_bus_mem, resolve_bus_mem]

theorem onWrite_sameMemoryExcept {value : State → Byte} {r : MemRef} (h : onWrite op value r s = .next t) :
    s.SameMemoryExcept [(resolve r s).1.ea] t := by
  cases h
  exact ((resolve r s).2.busWrite_sameMemoryExcept _ _).of_mem (resolve_bus_mem s r)

theorem onModify_sameMemoryExcept {f : AluOp} {r : MemRef} (h : onModify op f r s = .next t) :
    s.SameMemoryExcept [(resolve r s).1.ea] t := by
  cases h
  exact (((resolve r s).2.busRead (resolve r s).1.ea).2.busWrite_sameMemoryExcept _ _).of_mem (by simp)

theorem onBranch_bus {cond : Flags → Bool} {b : Byte} (h : onBranch op cond b s = .next t) : t.bus = s.bus := by
  rw [onBranch_eq] at h
  cases h
  split <;> rfl

/-! JSR and BRK, where the hook changes no byte. -/

theorem exec_jsr_sameMemoryExcept {w : Addr} (hhook : s.bus.nextReply.writes = []) (h : exec (.jsr w) s = .next t) :
    s.SameMemoryExcept [stackAddr s.sp, stackAddr (s.sp - 1#8)] t := by
  have hmem := State.callHook_bus_mem_of_no_writes hhook w (s.pc - 3#16)
  obtain ⟨a, -, rfl⟩ | ⟨-, rfl⟩ := exec_jsr_cases h
  · exact State.sameMemoryExcept_of_mem hmem _
  · exact ((State.callSubroutine_sameMemoryExcept _ w).of_mem hmem).charge _ _ _

theorem exec_brk_sameMemoryExcept (hhook : s.bus.nextReply.writes = []) (h : exec .brk s = .next t) :
    s.SameMemoryExcept [stackAddr s.sp, stackAddr (s.sp - 1#8), stackAddr (s.sp - 2#8)] t := by
  have hmem := s.read16_bus_mem Vector.irq.addr
  have hsp := s.read16_sp Vector.irq.addr
  have hhook' := (congrArg HookReply.writes (s.read16_nextReply Vector.irq.addr)).trans hhook
  have hcalled := (State.callHook_bus_mem_of_no_writes hhook' 0#16 (s.pc - 1#16)).trans hmem
  obtain ⟨a, -, -, -, rfl⟩ | ⟨-, -, -, rfl⟩ | ⟨-, rfl⟩ := exec_brk_cases h
  · exact State.sameMemoryExcept_of_mem hcalled _
  · rw [← hsp, ← State.callHook_sp _ 0#16 (s.pc - 1#16)]
    exact ((State.breakTo_sameMemoryExcept _ _ _).of_mem hcalled).charge _ _ _
  · rw [← hsp]
    exact ((State.breakTo_sameMemoryExcept _ _ _).of_mem hmem).charge _ _ _

end Machine

variable {i : Instr} {s t : State} {r : MemRef}

theorem Instr.storedAddrs_of_storedRegister {v : Byte} (h : i.mnemonic.storedRegister s = some v) :
    i.storedAddrs s = i.effective s := by
  cases i <;> cases h <;> rfl

theorem Instr.storedAddrs_of_isRmw (h : i.mnemonic.isRmw = true) : i.storedAddrs s = i.effective s := by
  cases i <;> cases h <;> rfl

theorem Instr.storedAddrs_brk :
    Instr.brk.storedAddrs s = [stackAddr s.sp, stackAddr (s.sp - 1#8), stackAddr (s.sp - 2#8)] := rfl

theorem Instr.storedAddrs_jsr (w : Addr) :
    (Instr.jsr w).storedAddrs s = [stackAddr s.sp, stackAddr (s.sp - 1#8)] := rfl

/-- The two instructions that name a memory operand and are of no class of 41 R114. -/
theorem Instr.eq_jmpAbs_or_jsr (href : i.memRef? = some r) (hread : i.mnemonic.isRead = false)
    (hwrite : i.mnemonic.storedRegister s = none) (hmodify : i.mnemonic.isRmw = false) :
    ∃ w, i = .jmpAbs w ∨ i = .jsr w := by
  cases i <;> cases href <;> cases hread <;> cases hwrite <;> cases hmodify
  case jmpAbs w => exact ⟨w, .inl rfl⟩
  case jsr w => exact ⟨w, .inr rfl⟩

/-- An instruction with a memory operand: its class says what it does there, and JMP and JSR have only the address. -/
theorem Machine.exec_sameMemoryExcept_of_memRef? (hhook : s.bus.nextReply.writes = []) (h : exec i s = .next t)
    (href : i.memRef? = some r) : s.SameMemoryExcept (i.storedAddrs s) t := by
  cases hread : i.mnemonic.isRead with
  | true =>
    obtain ⟨op, use, harm, huse⟩ := Instr.exec_of_isRead hread href
    exact State.sameMemoryExcept_of_mem (onRead_bus_mem (harm s ▸ h) huse) _
  | false =>
  cases hwrite : i.mnemonic.storedRegister s with
  | some v =>
    obtain ⟨op, value, harm, -⟩ := Instr.exec_of_storedRegister hwrite href
    rw [Instr.storedAddrs_of_storedRegister hwrite, Instr.effective_of_memRef? href]
    exact onWrite_sameMemoryExcept (harm ▸ h)
  | none =>
  cases hmodify : i.mnemonic.isRmw with
  | true =>
    obtain ⟨op, f, harm⟩ := Instr.exec_of_isRmw hmodify href
    rw [Instr.storedAddrs_of_isRmw hmodify, Instr.effective_of_memRef? href]
    exact onModify_sameMemoryExcept (harm s ▸ h)
  | false =>
    obtain ⟨w, rfl | rfl⟩ := Instr.eq_jmpAbs_or_jsr href hread hwrite hmodify
    · cases h
      exact State.sameMemoryExcept_of_mem rfl _
    · rw [Instr.storedAddrs_jsr]
      exact exec_jsr_sameMemoryExcept hhook h

/-- An instruction without one: only PHA, PHP and BRK write to the Bus. -/
theorem Machine.exec_sameMemoryExcept_of_no_memRef? (hhook : s.bus.nextReply.writes = []) (h : exec i s = .next t)
    (href : i.memRef? = none) : s.SameMemoryExcept (i.storedAddrs s) t := by
  cases i <;> cases href
  case pha | php =>
    cases h
    exact s.push_sameMemoryExcept _
  case brk =>
    rw [Instr.storedAddrs_brk]
    exact exec_brk_sameMemoryExcept hhook h
  all_goals refine State.sameMemoryExcept_of_mem ?_ _
  case bcc | bcs | beq | bmi | bne | bpl | bvc | bvs =>
    simp only [exec_bcc, exec_bcs, exec_beq, exec_bmi, exec_bne, exec_bpl, exec_bvc, exec_bvs] at h
    exact congrArg Bus.mem (onBranch_bus h)
  case pla =>
    cases h
    exact s.pull_bus_mem
  case plp =>
    cases h
    exact s.pullFlags_bus_mem
  case rts =>
    cases h
    exact s.pullWord_bus_mem
  case rti =>
    cases h
    exact s.returnFromException_bus_mem
  case jmpInd w =>
    cases h
    exact resolveIndirect_bus_mem s w
  -- immediate operands, the accumulator and the implied registers: no Bus call
  all_goals
    cases h
    rfl

/-- Settles O20: an instruction writes at the effective address of its memory operand, or on the stack from S down. -/
theorem memoryChangesOnlyWhereStored : Obligations.MemoryChangesOnlyWhereStored := by
  unfold Obligations.MemoryChangesOnlyWhereStored
  intro i s t hhook h
  cases href : i.memRef? with
  | none => exact exec_sameMemoryExcept_of_no_memRef? hhook h href
  | some r => exact exec_sameMemoryExcept_of_memRef? hhook h href

end Sys2Proof
end

/-! ## N and Z of a result byte, and the bytes one above and one below (43 R140, R157-R160) -/

section
namespace Sys2Proof.Machine

theorem Flags.setNZ_eq_nzOf (v : Byte) (p : Flags) : p.setNZ v = nzOf v p := by
  have hzero : v = 0#8 ↔ v.toNat = 0 := BitVec.toNat_inj.symm
  simp only [Flags.setNZ, nzOf, hzero, BitVec.msb_eq_decide, Nat.add_one_sub_one, Nat.reducePow]

theorem alu_pass (a m : Byte) (p : Flags) : alu .pass a m p = (m, nzOf m p) := by
  rw [alu, Flags.setNZ_eq_nzOf]

theorem alu_inc {m r : Byte} (hr : r = BitVec.ofNat 8 ((m.toNat + 1) % 256)) (a : Byte) (p : Flags) :
    alu .inc a m p = (r, nzOf r p) := by
  have hsucc : m + 1#8 = r := by rw [hr]; bv_omega
  rw [alu, Flags.setNZ_eq_nzOf, hsucc]

theorem alu_dec {m r : Byte} (hr : r = BitVec.ofNat 8 ((m.toNat + 255) % 256)) (a : Byte) (p : Flags) :
    alu .dec a m p = (r, nzOf r p) := by
  have hpred : m - 1#8 = r := by rw [hr]; bv_omega
  rw [alu, Flags.setNZ_eq_nzOf, hpred]

end Sys2Proof.Machine
end

/-! ## The next state of the read class (41 R114, 42 R120-R122) -/

section
namespace Sys2Proof

open Sys2Proof.Machine

/-- What an instruction of the read class does with its operand (42 R120-R122, 43 R146-R154). -/
def Mnemonic.readUse? (n : Mnemonic) : Option (Byte → State → State) :=
  match n with
  | .lda => some (State.accOp .pass)
  | .ldx => some (State.xOp .pass)
  | .ldy => some (State.yOp .pass)
  | .adc => some (State.accOp .add)
  | .sbc => some (State.accOp .sub)
  | .and => some (State.accOp .and)
  | .ora => some (State.accOp .or)
  | .eor => some (State.accOp .xor)
  | .bit => some fun m t => t.testOp .bit t.a m
  | .cmp => some fun m t => t.testOp .cmp t.a m
  | .cpx => some fun m t => t.testOp .cmp t.x m
  | .cpy => some fun m t => t.testOp .cmp t.y m
  | _ => none

variable {i : Instr} {use : Byte → State → State}

/-- The arm of the read class: the immediate forms have no memory operand, and all the others read it. -/
theorem Instr.exec_arm_of_readUse (h : i.mnemonic.readUse? = some use) (s : State) :
    ∃ op cross, exec i s = .next ((use (i.readOperand s).value (i.readOperand s).after).charge op cross false) := by
  cases href : i.memRef?
  case' none => rw [Instr.readOperand_of_no_memRef? href]
  case' some => rw [Instr.readOperand_of_memRef? href]
  -- the row's shape is the one its mode asks for
  all_goals cases i <;> cases h <;> cases href
  all_goals
    simp only [Instr.operand, BitVec.ofNat_toNat, BitVec.setWidth_eq]
    exact ⟨_, _, rfl⟩

/-- The whole next state of the read class: the operand is read, used, and the cycles are owed. -/
theorem Instr.exec_of_readUse (h : i.mnemonic.readUse? = some use) (s : State) :
    exec i s = .next ((use (i.readOperand s).value (i.readOperand s).after).setTicks (i.cycleCount s)) := by
  obtain ⟨op, cross, harm⟩ := Instr.exec_arm_of_readUse h s
  have hticks : cyclesOf op cross false = i.cycleCount s := exec_ticks harm
  rw [harm, State.charge, hticks]

theorem Instr.readOperand_sameRegisters (i : Instr) (s : State) : s.SameRegisters (i.readOperand s).after :=
  (operandReadFrame i s).1

/-- Settles O23: a load passes its operand through the alu, and the reads of the operand leave P as it was. -/
theorem loadResult : Obligations.LoadResult := by
  unfold Obligations.LoadResult
  intro i s
  have hp := (i.readOperand_sameRegisters s).p
  refine ⟨fun hname => ?_, fun hname => ?_, fun hname => ?_⟩
  · rw [Instr.exec_of_readUse (congrArg Mnemonic.readUse? hname) s, State.accOp, alu_pass, hp]
    rfl
  · rw [Instr.exec_of_readUse (congrArg Mnemonic.readUse? hname) s, State.xOp, alu_pass, hp]
    rfl
  · rw [Instr.exec_of_readUse (congrArg Mnemonic.readUse? hname) s, State.yOp, alu_pass, hp]
    rfl

end Sys2Proof
end

/-! ## What a store leaves (42 R123-R125) -/

section
namespace Sys2Proof

open Sys2Proof.Machine

theorem Instr.memRef?_of_storedRegister {i : Instr} {s : State} {v : Byte}
    (h : i.mnemonic.storedRegister s = some v) : ∃ r, i.memRef? = some r := by
  cases i <;> cases h <;> exact ⟨_, rfl⟩

theorem Machine.State.busWrite_sameMemory_mapped {s : State} {a : Addr} (h : s.bus.isMapped a = true) (v : Byte) :
    s.SameMemory (s.busWrite a v) :=
  State.peek_congr (s.busWrite_mem_mapped h v)

/-- Settles O24: a store resolves its operand, which changes no register and no byte, and then writes once. -/
theorem storeResult : Obligations.StoreResult := by
  unfold Obligations.StoreResult
  intro i s v hm hclass
  obtain ⟨r, href⟩ := Instr.memRef?_of_storedRegister hclass
  obtain ⟨op, value, harm, rfl⟩ := Instr.exec_of_storedRegister hclass href
  have hnext := onWrite_eq s op value r
  refine ⟨_, _, Instr.effective_of_memRef? href, harm.trans hnext, onWrite_regs hnext, onWrite_sameMemoryExcept hnext, ?_,
    fun hplain => ?_, fun hmapped x => ?_⟩
  · rw [State.charge_bus, State.busWrite_bus_calls, List.head?_cons]
  · exact State.busWrite_peek_same _ ((resolve_isMapped ..).trans hplain) ((resolve_bus_mem s r).symm ▸ hm) _
  · exact (State.busWrite_sameMemory_mapped ((resolve_isMapped ..).trans hmapped) _ x).trans (resolve_peek ..)

end Sys2Proof
end

/-! ## The transfers and the counts (42 R126-R131, 43 R157-R160) -/

section
namespace Sys2Proof

namespace Machine

variable {s : State} {op : Byte} {f : AluOp} {reg : State → Byte} {r : Byte}

theorem onImplied_accOp_eq (halu : alu f s.a (reg s) s.p = (r, nzOf r s.p)) (hcost : cyclesOf op false false = 2) :
    onImplied op (fun t => t.accOp f (reg t)) s = .next { s with a := r, p := nzOf r s.p, ticks := 2 } := by
  rw [onImplied_eq, State.accOp, halu, State.charge, hcost]
  rfl

theorem onImplied_xOp_eq (halu : alu f 0#8 (reg s) s.p = (r, nzOf r s.p)) (hcost : cyclesOf op false false = 2) :
    onImplied op (fun t => t.xOp f (reg t)) s = .next { s with x := r, p := nzOf r s.p, ticks := 2 } := by
  rw [onImplied_eq, State.xOp, halu, State.charge, hcost]
  rfl

theorem onImplied_yOp_eq (halu : alu f 0#8 (reg s) s.p = (r, nzOf r s.p)) (hcost : cyclesOf op false false = 2) :
    onImplied op (fun t => t.yOp f (reg t)) s = .next { s with y := r, p := nzOf r s.p, ticks := 2 } := by
  rw [onImplied_eq, State.yOp, halu, State.charge, hcost]
  rfl

end Machine

open Sys2Proof.Machine

/-- Settles O25: each is one operation of the alu on the register it names, but TXS, which has no flag to set. -/
theorem registerTransferAndCountResult : Obligations.RegisterTransferAndCountResult := by
  unfold Obligations.RegisterTransferAndCountResult
  intro s up down
  refine ⟨?tax, ?tay, ?txa, ?tya, ?tsx, ?txs, ?inx, ?iny, ?dex, ?dey⟩
  case tax => exact onImplied_xOp_eq (reg := State.a) (alu_pass ..) (cyclesOf_tax ..)
  case tay => exact onImplied_yOp_eq (reg := State.a) (alu_pass ..) (cyclesOf_tay ..)
  case txa => exact onImplied_accOp_eq (reg := State.x) (alu_pass ..) (cyclesOf_txa ..)
  case tya => exact onImplied_accOp_eq (reg := State.y) (alu_pass ..) (cyclesOf_tya ..)
  case tsx => exact onImplied_xOp_eq (reg := State.sp) (alu_pass ..) (cyclesOf_tsx ..)
  case txs => rfl
  case inx => exact onImplied_xOp_eq (reg := State.x) (alu_inc rfl ..) (cyclesOf_inx ..)
  case iny => exact onImplied_yOp_eq (reg := State.y) (alu_inc rfl ..) (cyclesOf_iny ..)
  case dex => exact onImplied_xOp_eq (reg := State.x) (alu_dec rfl ..) (cyclesOf_dex ..)
  case dey => exact onImplied_yOp_eq (reg := State.y) (alu_dec rfl ..) (cyclesOf_dey ..)

end Sys2Proof
end

/-! ## A, X, Y and P after the read class (43 R140, R145-R154) -/

section
namespace Sys2Proof

open Sys2Proof.Machine

namespace Machine

theorem Flags.ofSum_eq (q : Sum) (p : Flags) : p.ofSum q = { nzOf q.r p with c := q.c, v := q.v } := by
  rw [Flags.ofSum, Flags.setNZ_eq_nzOf]

theorem addSelected_eq (a m : Byte) (p : Flags) :
    addSelected a m p = if p.d = true then addDecimal a m p.c else addBinary a m p.c := by
  rw [addSelected, Config.decimalEnabled, Bool.and_true]

theorem subSelected_eq (a m : Byte) (p : Flags) :
    subSelected a m p = if p.d = true then subDecimal a m p.c else subBinary a m p.c := by
  rw [subSelected, Config.decimalEnabled, Bool.and_true]

theorem alu_add {a m : Byte} {p : Flags} {q : Sum}
    (hq : q = if p.d = true then addDecimal a m p.c else addBinary a m p.c) :
    alu .add a m p = (q.r, { nzOf q.r p with c := q.c, v := q.v }) := by
  rw [alu, addSelected_eq, ← hq, Flags.ofSum_eq]

theorem alu_sub {a m : Byte} {p : Flags} {q : Sum}
    (hq : q = if p.d = true then subDecimal a m p.c else subBinary a m p.c) :
    alu .sub a m p = (q.r, { nzOf q.r p with c := q.c, v := q.v }) := by
  rw [alu, subSelected_eq, ← hq, Flags.ofSum_eq]

theorem alu_and (a m : Byte) (p : Flags) : alu .and a m p = (a &&& m, nzOf (a &&& m) p) := by
  rw [alu, Flags.setNZ_eq_nzOf]

theorem alu_or (a m : Byte) (p : Flags) : alu .or a m p = (a ||| m, nzOf (a ||| m) p) := by
  rw [alu, Flags.setNZ_eq_nzOf]

theorem alu_xor (a m : Byte) (p : Flags) : alu .xor a m p = (a ^^^ m, nzOf (a ^^^ m) p) := by
  rw [alu, Flags.setNZ_eq_nzOf]

theorem alu_cmp_flags (reg m : Byte) (p : Flags) : (alu .cmp reg m p).2 =
    { nzOf (BitVec.ofNat 8 (256 + reg.toNat - m.toNat)) p with c := decide (m.toNat ≤ reg.toNat) } := by
  have hdiff : reg - m = BitVec.ofNat 8 (256 + reg.toNat - m.toNat) := by bv_omega
  rw [alu, Flags.compare, Flags.setNZ_eq_nzOf, hdiff]

theorem alu_bit_flags (a m : Byte) (p : Flags) : (alu .bit a m p).2 =
    { p with
      n := decide (128 ≤ m.toNat), v := decide (64 ≤ m.toNat % 128), z := decide ((a &&& m).toNat = 0) } := by
  have hseven : m.getLsbD 7 = decide (128 ≤ m.toNat) := (BitVec.msb_eq_getLsbD_last m).symm.trans m.msb_eq_decide
  have hsix : m.getLsbD 6 = decide (64 ≤ m.toNat % 128) := by
    rw [BitVec.getLsbD, Nat.testBit_eq_decide_div_mod_eq]
    exact decide_eq_decide.2 (by omega)
  have hzero : a &&& m = 0#8 ↔ (a &&& m).toNat = 0 := BitVec.toNat_inj.symm
  simp only [alu, Flags.bitTest, hseven, hsix, hzero]

end Machine

variable {i : Instr} {f : AluOp} {s : State} {r : Byte} {q : Flags}

/-- An instruction of the read class that takes A and P from the alu. -/
theorem Instr.exec_of_accOp (h : i.mnemonic.readUse? = some (State.accOp f))
    (halu : alu f s.a (i.readOperand s).value s.p = (r, q)) :
    exec i s = .next { (i.readOperand s).after with a := r, p := q, ticks := i.cycleCount s } := by
  have hregs := i.readOperand_sameRegisters s
  rw [Instr.exec_of_readUse h, State.accOp, hregs.a, hregs.p, halu]
  rfl

/-- An instruction of the read class that compares or tests a register, and takes P alone from the alu. -/
theorem Instr.exec_of_testOp {reg : State → Byte} (h : i.mnemonic.readUse? = some fun m t => t.testOp f (reg t) m)
    (hreg : reg (i.readOperand s).after = reg s) (halu : (alu f (reg s) (i.readOperand s).value s.p).2 = q) :
    exec i s = .next { (i.readOperand s).after with p := q, ticks := i.cycleCount s } := by
  rw [Instr.exec_of_readUse h, State.testOp, hreg, (i.readOperand_sameRegisters s).p, halu]
  rfl

/-- Settles O30: both take A and P from the alu, which selects the arithmetic by the D that the operand's reads left. -/
theorem addAndSubtractResult : Obligations.AddAndSubtractResult := by
  unfold Obligations.AddAndSubtractResult
  intro i s
  exact ⟨fun hname => Instr.exec_of_accOp (congrArg Mnemonic.readUse? hname) (alu_add rfl),
    fun hname => Instr.exec_of_accOp (congrArg Mnemonic.readUse? hname) (alu_sub rfl)⟩

/-- Settles O31: the three take A and P from the alu. -/
theorem logicResult : Obligations.LogicResult := by
  unfold Obligations.LogicResult
  intro i s
  exact ⟨fun hname => Instr.exec_of_accOp (congrArg Mnemonic.readUse? hname) (alu_and ..),
    fun hname => Instr.exec_of_accOp (congrArg Mnemonic.readUse? hname) (alu_or ..),
    fun hname => Instr.exec_of_accOp (congrArg Mnemonic.readUse? hname) (alu_xor ..)⟩

/-- Settles O32: the compares and BIT drop the result of the alu, and the operand's reads leave the register they look at. -/
theorem compareAndBitResult : Obligations.CompareAndBitResult := by
  unfold Obligations.CompareAndBitResult
  intro i s m s' compared
  have hregs := i.readOperand_sameRegisters s
  refine ⟨fun hname => ?cmp, fun hname => ?cpx, fun hname => ?cpy, fun hname => ?bit⟩
  case cmp => exact Instr.exec_of_testOp (reg := State.a) (congrArg Mnemonic.readUse? hname) hregs.a (alu_cmp_flags ..)
  case cpx => exact Instr.exec_of_testOp (reg := State.x) (congrArg Mnemonic.readUse? hname) hregs.x (alu_cmp_flags ..)
  case cpy => exact Instr.exec_of_testOp (reg := State.y) (congrArg Mnemonic.readUse? hname) hregs.y (alu_cmp_flags ..)
  case bit => exact Instr.exec_of_testOp (reg := State.a) (congrArg Mnemonic.readUse? hname) hregs.a (alu_bit_flags ..)

end Sys2Proof
end

/-! ## What a read-modify-write leaves (43 R155, R156, 44 R170-R174) -/

section
namespace Sys2Proof

open Sys2Proof.Machine

namespace Machine

/-! A shift as a number: the two bytes that it joins have no bit in common. -/

theorem shiftLeft_eq (m : Byte) (c : Bool) : shiftLeft m c = BitVec.ofNat 8 ((2 * m.toNat + c.toNat) % 256) := by
  have hdisjoint : m <<< 1 &&& (BitVec.ofBool c).setWidth 8 = 0#8 := by
    ext k
    cases k <;> simp
  apply BitVec.eq_of_toNat_eq
  rw [shiftLeft, ← BitVec.add_eq_or_of_and_eq_zero _ _ hdisjoint]
  simp only [BitVec.toNat_add, BitVec.toNat_shiftLeft, BitVec.toNat_setWidth, BitVec.toNat_ofBool, BitVec.toNat_ofNat]
  omega

theorem shiftRight_eq (m : Byte) (c : Bool) : shiftRight m c = BitVec.ofNat 8 (m.toNat / 2 + 128 * c.toNat) := by
  have hdisjoint : m >>> 1 &&& (BitVec.ofBool c).setWidth 8 <<< 7 = 0#8 := by
    ext k hk
    obtain hlow | rfl : k < 7 ∨ k = 7 := by omega
    · simp [hlow]
    · simp
  apply BitVec.eq_of_toNat_eq
  rw [shiftRight, ← BitVec.add_eq_or_of_and_eq_zero _ _ hdisjoint]
  simp only [BitVec.toNat_add, BitVec.toNat_ushiftRight, BitVec.toNat_shiftLeft, BitVec.toNat_setWidth,
    BitVec.toNat_ofBool, BitVec.toNat_ofNat]
  omega

theorem shifted_eq {r r' : Byte} {out out' : Bool} (hr : r = r') (hout : out = out') (p : Flags) :
    (r, p.shifted out r) = (r', { nzOf r' p with c := out' }) := by
  rw [Flags.shifted, Flags.setNZ_eq_nzOf, hr, hout]

/-- What the alu gives a read-modify-write, in the numbers of the rules. -/
theorem alu_of_isRmw {n : Mnemonic} {f : AluOp} (hclass : n.isRmw = true) (hop : n.aluOp? = some f) {m r : Byte} {p : Flags}
    (hr : r = BitVec.ofNat 8 (n.rmwResult m.toNat p.c.toNat)) (a : Byte) :
    alu f a m p = (r, { nzOf r p with c := n.rmwCarry m.toNat p.c }) := by
  have hhigh : m.msb = decide (128 ≤ m.toNat) := m.msb_eq_decide
  have hlow : m.getLsbD 0 = decide (m.toNat % 2 = 1) := by simp [BitVec.getLsbD]
  cases n <;> cases hclass <;> cases hop
  case inc => exact alu_inc hr a p
  case dec => exact alu_dec hr a p
  case asl => exact shifted_eq ((shiftLeft_eq m false).trans hr.symm) hhigh p
  case lsr => exact shifted_eq ((shiftRight_eq m false).trans hr.symm) hlow p
  case rol => exact shifted_eq ((shiftLeft_eq m p.c).trans hr.symm) hhigh p
  case ror => exact shifted_eq ((shiftRight_eq m p.c).trans hr.symm) hlow p

end Machine

theorem Instr.memRef?_of_isRmw {i : Instr} (hclass : i.mnemonic.isRmw = true) (hmode : i.mode ≠ .acc) :
    ∃ r, i.memRef? = some r := by
  cases i <;> cases hclass
  case aslAcc | lsrAcc | rolAcc | rorAcc => exact absurd rfl hmode
  all_goals exact ⟨_, rfl⟩

/-- The arm of the read-modify-write class, with the operation of the alu that the mnemonic names. -/
theorem Instr.exec_onModify_aluOp {i : Instr} {r : MemRef} (hclass : i.mnemonic.isRmw = true) (h : i.memRef? = some r)
    (s : State) : ∃ op f, i.mnemonic.aluOp? = some f ∧ exec i s = onModify op f r s := by
  cases i <;> cases hclass <;> cases h
  all_goals
    simp only [Instr.operand, BitVec.ofNat_toNat, BitVec.setWidth_eq]
    exact ⟨_, _, rfl, rfl⟩

/-- Settles O33: one read of the operand, one write of the alu's result; neither writes a register. -/
theorem readModifyWriteResult : Obligations.ReadModifyWriteResult := by
  unfold Obligations.ReadModifyWriteResult
  intro i s hm hclass hmode m r
  obtain ⟨ref, href⟩ := Instr.memRef?_of_isRmw hclass hmode
  obtain ⟨op, f, hop, harm⟩ := Instr.exec_onModify_aluOp hclass href s
  have hoperand : ((resolve ref s).2.busRead (resolve ref s).1.ea).1 = m :=
    (congrArg OperandRead.value (Instr.readOperand_of_memRef? href)).symm
  have hmodify := onModify_eq s op f ref
  rw [hoperand, alu_of_isRmw hclass hop rfl] at hmodify
  obtain ⟨_, _, hregs⟩ := onModify_regs hmodify
  refine ⟨_, _, Instr.effective_of_memRef? href, harm.trans hmodify, rfl, hregs.a, hregs.x, hregs.y, hregs.sp, hregs.pc,
    onModify_sameMemoryExcept hmodify, ?_, fun hplain => ?_, fun hmapped x => ?_⟩
  · rw [State.charge_bus, State.setP_bus, State.busWrite_bus_calls, List.head?_cons]
  · exact State.busWrite_peek_same _ (by simpa using hplain) (by simpa using hm) _
  · exact (State.busWrite_sameMemory_mapped (by simpa using hmapped) _ x).trans (by simp)

end Sys2Proof
end

/-! ## Binary addition and subtraction (43 R141, R143) -/

section
namespace Sys2Proof

open Sys2Proof.Machine

theorem Byte.getLsbD_seven (v : Byte) : v.getLsbD 7 = v.msb := (BitVec.msb_eq_getLsbD_last v).symm

theorem Byte.toInt_eq (v : Byte) : v.toInt = if 128 ≤ v.toNat then (v.toNat : Int) - 256 else v.toNat := by
  rw [BitVec.toInt_eq_msb_cond, BitVec.msb_eq_decide]
  simp

namespace Machine

theorem Sum.ext {q q' : Sum} (hr : q.r = q'.r) (hc : q.c = q'.c) (hv : q.v = q'.v) : q = q' := by
  cases q
  cases q'
  rw [Sum.mk.injEq]
  exact ⟨hr, hc, hv⟩

variable (a m : Byte) (c : Bool)

theorem addBinary_r_toNat : (addBinary a m c).r.toNat = (a.toNat + m.toNat + c.toNat) % 256 :=
  BitVec.toNat_ofNat ..

theorem addBinary_v_iff : (addBinary a m c).v = true ↔ a.msb = m.msb ∧ (addBinary a m c).r.msb ≠ a.msb := by
  rw [addBinary, Bool.and_eq_true, beq_iff_eq, bne_iff_ne]

/-- Overflow, in two's complement. -/
theorem addBinary_v_iff_signed : (addBinary a m c).v = true ↔
    a.toInt + m.toInt + (c.toNat : Int) < -128 ∨ 127 < a.toInt + m.toInt + (c.toNat : Int) := by
  have ha := a.isLt
  have hm := m.isLt
  have hc := c.toNat_le
  simp only [addBinary_v_iff, BitVec.msb_eq_decide, addBinary_r_toNat, Byte.toInt_eq, ne_eq, decide_eq_decide]
  omega

theorem subBinary_r_toNat :
    ((subBinary a m c).r.toNat : Int) = ((a.toNat : Int) - m.toNat - (1 - c.toNat)) % 256 := by
  rw [subBinary, BitVec.toNat_ofInt]
  omega

theorem subBinary_c : (subBinary a m c).c = decide (m.toNat + 1 ≤ a.toNat + c.toNat) :=
  decide_eq_decide.2 (by omega)

theorem subBinary_v_iff : (subBinary a m c).v = true ↔ a.msb ≠ m.msb ∧ (subBinary a m c).r.msb ≠ a.msb := by
  rw [subBinary, Bool.and_eq_true, bne_iff_ne, bne_iff_ne]

theorem subBinary_eq_addBinary_not : subBinary a m c = addBinary a (~~~m) c := by
  have hnot : (~~~m).toNat = 255 - m.toNat := BitVec.toNat_not
  have hr : (subBinary a m c).r = (addBinary a (~~~m) c).r := by
    have hsub := subBinary_r_toNat a m c
    have hadd := addBinary_r_toNat a (~~~m) c
    exact BitVec.eq_of_toNat_eq (by omega)
  have hc : (subBinary a m c).c = (addBinary a (~~~m) c).c := decide_eq_decide.2 (by omega)
  have hv : (subBinary a m c).v = (addBinary a (~~~m) c).v := by
    have hmsb : (~~~m).msb = !m.msb := by simp [BitVec.msb_not]
    rw [Bool.eq_iff_iff, subBinary_v_iff, addBinary_v_iff, hr, hmsb, Bool.eq_not]
  exact Sum.ext hr hc hv

/-- The immediate ADC, on the sum that D selects. -/
theorem exec_adcImm_of_sum {s : State} {m : Byte} {q : Sum}
    (hq : q = if s.p.d = true then addDecimal s.a m s.p.c else addBinary s.a m s.p.c) :
    exec (.adcImm m) s = .next { s with a := q.r, p := { nzOf q.r s.p with c := q.c, v := q.v }, ticks := 2 } := by
  rw [exec_adcImm, onImmediate_eq, State.accOp, alu_add hq]
  rfl

/-- The immediate SBC, on the difference that D selects. -/
theorem exec_sbcImm_of_difference {s : State} {m : Byte} {q : Sum}
    (hq : q = if s.p.d = true then subDecimal s.a m s.p.c else subBinary s.a m s.p.c) :
    exec (.sbcImm m) s = .next { s with a := q.r, p := { nzOf q.r s.p with c := q.c, v := q.v }, ticks := 2 } := by
  rw [exec_sbcImm, onImmediate_eq, State.accOp, alu_sub hq]
  rfl

end Machine

/-- Settles O26: V by the signs is overflow in two's complement, and the worked example is one sum. -/
theorem binaryAddition : Obligations.BinaryAddition := by
  unfold Obligations.BinaryAddition
  intro a m c
  have hexample : ⟨0xA0#8, false, true⟩ = addBinary 0x50#8 0x50#8 false := by decide
  simp only [Byte.getLsbD_seven]
  exact ⟨addBinary_r_toNat a m c, rfl, addBinary_v_iff a m c, addBinary_v_iff_signed a m c,
    fun _ => exec_adcImm_of_sum (q := ⟨0xA0#8, false, true⟩) hexample⟩

/-- Settles O27: the complement of `m` is `255 - m`, and its sign is the other one. -/
theorem binarySubtraction : Obligations.BinarySubtraction := by
  unfold Obligations.BinarySubtraction
  intro a m c
  have hxor : m ^^^ 0xFF#8 = ~~~m := BitVec.xor_allOnes
  simp only [Byte.getLsbD_seven, hxor]
  exact ⟨subBinary_r_toNat a m c, subBinary_c a m c, subBinary_v_iff a m c, subBinary_eq_addBinary_not a m c⟩

end Sys2Proof
end

/-! ## Decimal addition and subtraction (43 R142, R144) -/

section
namespace Sys2Proof

open Sys2Proof.Machine

/-- The two nibbles of valid BCD are decimal digits. -/
theorem isBcd_iff {b : Byte} : isBcd b = true ↔ b.toNat / 16 ≤ 9 ∧ b.toNat % 16 ≤ 9 := by
  rw [isBcd, Bool.and_eq_true, decide_eq_true_eq, decide_eq_true_eq]

/-- A byte made of the last two decimal digits of `n`. -/
theorem isBcd_and_bcdValue_of_digits {b : Byte} {n : Nat} (hb : b.toNat = n / 10 % 10 * 16 + n % 10) :
    isBcd b = true ∧ bcdValue b = n % 100 := by
  rw [isBcd_iff, bcdValue, hb]
  omega

theorem bcdValue_lt_of_isBcd {b : Byte} (h : isBcd b = true) : bcdValue b < 100 := by
  obtain ⟨htens, hones⟩ := isBcd_iff.1 h
  rw [bcdValue]
  omega

namespace Machine

variable {a m : Byte} {c : Bool} {n : Nat}

/-- On valid BCD the corrected sum is the decimal sum, with its last digit in the low nibble. -/
theorem addDecimal_sum_of_isBcd (ha : isBcd a = true) (hm : isBcd m = true) (hn : bcdValue a + bcdValue m + c.toNat = n) :
    highNibble a * 16 + highNibble m * 16 + addDecimalLow a m c = n / 10 * 16 + n % 10 := by
  have hc := c.toNat_le
  obtain ⟨-, ha0⟩ := isBcd_iff.1 ha
  obtain ⟨-, hm0⟩ := isBcd_iff.1 hm
  rw [bcdValue, bcdValue] at hn
  rw [addDecimalLow, highNibble, highNibble, lowNibble, lowNibble]
  split <;> omega

/-- On valid BCD the corrected difference is the decimal one. Its digits are those of `n`, which is 100 more, so as not to be
negative. -/
theorem subDecimal_difference_of_isBcd (ha : isBcd a = true) (hm : isBcd m = true)
    (hn : bcdValue a + 99 + c.toNat = n + bcdValue m) :
    (highNibble a : Int) * 16 - (highNibble m : Int) * 16 + subDecimalLow a m c = (n / 10 * 16 + n % 10 : Nat) - 160 := by
  have hc := c.toNat_le
  obtain ⟨-, ha0⟩ := isBcd_iff.1 ha
  obtain ⟨-, hm0⟩ := isBcd_iff.1 hm
  rw [bcdValue, bcdValue] at hn
  rw [subDecimalLow, highNibble, highNibble, lowNibble, lowNibble]
  split <;> omega

theorem addDecimal_of_isBcd (ha : isBcd a = true) (hm : isBcd m = true) (hn : bcdValue a + bcdValue m + c.toNat = n) :
    isBcd (addDecimal a m c).r = true ∧ bcdValue (addDecimal a m c).r = n % 100 ∧
      (addDecimal a m c).c = decide (100 ≤ n) := by
  have hbound : n < 200 := by
    have := bcdValue_lt_of_isBcd ha
    have := bcdValue_lt_of_isBcd hm
    have := c.toNat_le
    omega
  have hsum := addDecimal_sum_of_isBcd ha hm hn
  have hr : (addDecimal a m c).r.toNat = n / 10 % 10 * 16 + n % 10 := by
    simp only [addDecimal, hsum, BitVec.toNat_ofNat]
    split
    · have htens : n / 10 % 10 = n / 10 - 10 := by omega
      omega
    · have htens : n / 10 % 10 = n / 10 := by omega
      omega
  have hcarry : (addDecimal a m c).c = decide (100 ≤ n) := by
    simp only [addDecimal, hsum, decide_eq_decide]
    split <;> omega
  obtain ⟨hbcd, hvalue⟩ := isBcd_and_bcdValue_of_digits hr
  exact ⟨hbcd, hvalue, hcarry⟩

theorem subDecimal_of_isBcd (ha : isBcd a = true) (hm : isBcd m = true)
    (hn : bcdValue a + 99 + c.toNat = n + bcdValue m) :
    isBcd (subDecimal a m c).r = true ∧ bcdValue (subDecimal a m c).r = n % 100 := by
  have hbound : n < 200 := by
    have := bcdValue_lt_of_isBcd ha
    have := c.toNat_le
    omega
  have hdiff := subDecimal_difference_of_isBcd ha hm hn
  refine isBcd_and_bcdValue_of_digits ?_
  simp only [subDecimal, hdiff, BitVec.toNat_ofInt]
  split
  · have htens : n / 10 % 10 = n / 10 := by omega
    omega
  · have htens : n / 10 % 10 = n / 10 - 10 := by omega
    omega

/-- On valid BCD the order of the bytes is the order of their decimal values. -/
theorem subBinary_c_of_isBcd (ha : isBcd a = true) (hm : isBcd m = true) (c : Bool) :
    (subBinary a m c).c = decide (bcdValue m + 1 ≤ bcdValue a + c.toNat) := by
  have hc := c.toNat_le
  obtain ⟨-, ha0⟩ := isBcd_iff.1 ha
  obtain ⟨-, hm0⟩ := isBcd_iff.1 hm
  refine decide_eq_decide.2 ?_
  rw [bcdValue, bcdValue]
  omega

/-- `sint8(a[7:4]*16)`: what is left of a byte without its low nibble. -/
theorem highSigned_eq (a : Byte) : highSigned a = (a &&& 0xF0#8).toInt := by
  have hshift : a &&& 0xF0#8 = a >>> 4 <<< 4 := by
    ext k hk
    interval_cases k <;> simp
  have hnibble : BitVec.ofNat 8 (highNibble a * 16) = a >>> 4 <<< 4 := by
    apply BitVec.eq_of_toNat_eq
    simp only [highNibble, BitVec.toNat_ofNat, BitVec.toNat_shiftLeft, BitVec.toNat_ushiftRight]
    omega
  rw [highSigned, hnibble, hshift]

end Machine

/-- Settles O28: on valid BCD the two corrections leave the digits of the decimal sum in the nibbles, and its carry in C. -/
theorem decimalAddition : Obligations.DecimalAddition := by
  unfold Obligations.DecimalAddition
  intro a m c low al u u' t
  refine ⟨BitVec.toNat_ofNat .., rfl, ?_, fun ha hm => addDecimal_of_isBcd ha hm rfl, fun s => exec_adcImm_of_sum rfl⟩
  rw [addDecimal, Bool.or_eq_true, decide_eq_true_eq, decide_eq_true_eq, highSigned_eq, highSigned_eq]
  rfl

/-- Settles O29: on valid BCD the two corrections leave the digits of the decimal difference; C is that of the bytes' order. -/
theorem decimalSubtraction : Obligations.DecimalSubtraction := by
  unfold Obligations.DecimalSubtraction
  intro a m c low al t
  refine ⟨?_, rfl, rfl, fun ha hm => ?_, fun s => exec_sbcImm_of_difference rfl⟩
  · rw [subDecimal, BitVec.toNat_ofInt]
    exact Int.toNat_of_nonneg (Int.emod_nonneg _ (by decide))
  · have hm' := bcdValue_lt_of_isBcd hm
    obtain ⟨hbcd, hvalue⟩ := subDecimal_of_isBcd ha hm (Nat.sub_add_cancel (by omega)).symm
    exact ⟨hbcd, hvalue, subBinary_c_of_isBcd ha hm c⟩

end Sys2Proof
end

/-! ## The shifts of the accumulator (44 R170-R174) -/

section
namespace Sys2Proof

open Sys2Proof.Machine

/-- The arm of the accumulator forms, with the operation of the alu that the mnemonic names. -/
theorem Instr.exec_onImplied_aluOp {i : Instr} (hmode : i.mode = .acc) (s : State) : ∃ op f,
    i.mnemonic.aluOp? = some f ∧ exec i s = onImplied op (fun t => t.accOp f t.a) s ∧ cyclesOf op false false = 2 := by
  cases i <;> cases hmode
  case aslAcc => exact ⟨_, _, rfl, exec_aslAcc s, cyclesOf_aslAcc ..⟩
  case lsrAcc => exact ⟨_, _, rfl, exec_lsrAcc s, cyclesOf_lsrAcc ..⟩
  case rolAcc => exact ⟨_, _, rfl, exec_rolAcc s, cyclesOf_rolAcc ..⟩
  case rorAcc => exact ⟨_, _, rfl, exec_rorAcc s, cyclesOf_rorAcc ..⟩

theorem Instr.isRmw_of_mode_acc {i : Instr} (hmode : i.mode = .acc) : i.mnemonic.isRmw = true := by
  cases i <;> cases hmode
  all_goals rfl

/-- Settles O34: the accumulator takes the place of a read-modify-write's operand, and the alu gives A and P. -/
theorem accumulatorShiftResult : Obligations.AccumulatorShiftResult := by
  unfold Obligations.AccumulatorShiftResult
  intro i s hmode r
  obtain ⟨op, f, hop, harm, hcost⟩ := Instr.exec_onImplied_aluOp hmode s
  have halu : alu f s.a s.a s.p = (r, { nzOf r s.p with c := i.mnemonic.rmwCarry s.a.toNat s.p.c }) :=
    alu_of_isRmw (Instr.isRmw_of_mode_acc hmode) hop rfl s.a
  rw [harm, onImplied_eq, State.accOp, halu, State.charge, hcost]
  rfl

end Sys2Proof
end

/-! ## The target of a branch (45 R180-R188, 41 R113) -/

section
namespace Sys2Proof

open Sys2Proof.Machine

/-- The target of a branch in the spelling of the obligations. -/
theorem branchTarget_eq_ofInt (pcn : Addr) (b : Byte) :
    branchTarget pcn b = BitVec.ofInt 16 ((pcn.toNat : Int) + b.toInt) := by
  have hbase : BitVec.ofInt 16 (pcn.toNat : Int) = pcn := by
    rw [BitVec.ofInt_natCast, BitVec.ofNat_toNat, BitVec.setWidth_eq]
  have hoffset : BitVec.ofInt 16 b.toInt = sext16 b := rfl
  rw [BitVec.ofInt_add, hbase, hoffset, branchTarget]

/-- The arm of a branch, with the condition that its mnemonic names. -/
theorem Instr.exec_onBranch {i : Instr} (h : i.mnemonic.isBranch = true) (s : State) :
    ∃ op, exec i s = onBranch op i.mnemonic.condition (BitVec.ofNat 8 i.operand) s := by
  cases i <;> cases h
  all_goals
    simp only [Instr.operand, BitVec.ofNat_toNat, BitVec.setWidth_eq]
    exact ⟨_, rfl⟩

/-- A branch changes PC where its condition holds, and the cycles owed. -/
theorem Machine.onBranch_next (op : Byte) (cond : Flags → Bool) (b : Byte) (s : State) :
    ∃ cross, onBranch op cond b s =
      .next ((s.setPc (if cond s.p = true then branchTarget s.pc b else s.pc)).charge op cross (cond s.p)) := by
  rw [onBranch_eq]
  cases cond s.p with
  | true => exact ⟨_, rfl⟩
  | false => exact ⟨_, rfl⟩

/-- Settles O35: each arm is the branch primitive on the condition of its mnemonic, and owes the cycles of O17. -/
theorem branchResult : Obligations.BranchResult := by
  unfold Obligations.BranchResult
  intro i s hbranch
  obtain ⟨op, harm⟩ := Instr.exec_onBranch hbranch s
  obtain ⟨cross, hnext⟩ := onBranch_next op i.mnemonic.condition (BitVec.ofNat 8 i.operand) s
  have hticks : cyclesOf op cross (i.mnemonic.condition s.p) = i.cycleCount s := exec_ticks (harm.trans hnext)
  rw [harm, hnext, State.charge, hticks, branchTarget_eq_ofInt]
  rfl

end Sys2Proof
end

/-! ## Words read from plain memory, and the pointer of JMP (ind) (41 R112, 45 R189) -/

section
namespace Sys2Proof

open Sys2Proof.Machine

/-- A word in the spelling of the obligations. -/
theorem word_eq_ofNat (h l : Byte) : word h l = BitVec.ofNat 16 (h.toNat * 256 + l.toNat) := by
  rw [← word_toNat, BitVec.ofNat_toNat, BitVec.setWidth_eq]

namespace Machine

theorem loByte_eq_0xFF_iff (w : Addr) : loByte w = 0xFF#8 ↔ w.toNat % 256 = 255 := by
  rw [← BitVec.toNat_inj, loByte_toNat]
  rfl

/-- From the last byte of a page, the start of that page is 255 back. -/
theorem indirectHighAddr_eq (wrap : Bool) (ptr : Addr) : indirectHighAddr wrap ptr =
    if ptr.toNat % 256 = 255 ∧ wrap = true then ptr - 255#16 else ptr + 1#16 := by
  simp only [indirectHighAddr, loByte_eq_0xFF_iff]
  split
  case isTrue wraps =>
    obtain ⟨hlast, -⟩ := wraps
    have hhigh := hiByte_toNat ptr
    have hword := word_toNat (hiByte ptr) 0#8
    bv_omega
  case isFalse => rfl

variable {s : State}

theorem State.read16_plain_eq {a : Addr} (h0 : s.bus.isMapped a = false) (h1 : s.bus.isMapped (a + 1#16) = false) :
    s.read16 a = (word (s.peek (a + 1#16)) (s.peek a),
      { s with bus := { s.bus with calls := .read (a + 1#16) :: .read a :: s.bus.calls } }) := by
  have hnext := State.busRead_plain (s.noteCall (.read a)) h1
  simp only [State.read16, s.busRead_plain h0, hnext]
  rfl

theorem resolveIndirect_plain {ptr high : Addr} (hhigh : indirectHighAddr s.params.jmpIndPageWrap ptr = high)
    (h0 : s.bus.isMapped ptr = false) (h1 : s.bus.isMapped high = false) :
    resolveIndirect ptr s =
      (word (s.peek high) (s.peek ptr),
        { s with bus := { s.bus with calls := .read high :: .read ptr :: s.bus.calls } }) := by
  have hnext := State.busRead_plain (s.noteCall (.read ptr)) h1
  simp only [resolveIndirect, s.busRead_plain h0, hhigh, hnext]
  rfl

end Machine

/-- Settles O36: JMP (ind) reads its two bytes where `indirectHighAddr` says, with either value of JMP_IND_PAGE_WRAP. -/
theorem jumpResult : Obligations.JumpResult := by
  unfold Obligations.JumpResult
  intro s w
  constructor
  · rfl
  · intro high hlow hhigh
    change execJmpInd w s = _
    rw [execJmpInd, resolveIndirect_plain (indirectHighAddr_eq _ _) hlow hhigh, word_eq_ofNat]
    rfl

end Sys2Proof
end

/-! ## The call and the return (45 R190, R191) -/

section
namespace Sys2Proof

open Sys2Proof.Machine

namespace Machine

variable {s : State}

theorem exec_jsr_of_resume {a : Addr} (w : Addr) (h : s.bus.nextReply.answer.result = .resume a) :
    exec (.jsr w) s = .next (((s.callHook w (s.pc - 3#16)).2.setPc a).charge 0x20#8 false false) := by
  change execJsr w s = _
  simp only [execJsr, State.callHook_result, h]

theorem exec_jsr_of_fallthrough (w : Addr) (h : s.bus.nextReply.answer.result = .fallthrough) :
    exec (.jsr w) s = .next (((s.callHook w (s.pc - 3#16)).2.callSubroutine w).charge 0x20#8 false false) := by
  change execJsr w s = _
  simp only [execJsr, State.callHook_result, h]

theorem State.callSubroutine_peek_high (w : Addr) (hm : s.bus.mem.wf = true)
    (h : s.bus.isMapped (stackAddr s.sp) = false) :
    (s.callSubroutine w).peek (stackAddr s.sp) = hiByte (s.pc - 1#16) :=
  s.pushWord_peek_high _ hm h

theorem State.callSubroutine_peek_low (w : Addr) (hm : s.bus.mem.wf = true)
    (h : s.bus.isMapped (stackAddr (s.sp - 1#8)) = false) :
    (s.callSubroutine w).peek (stackAddr (s.sp - 1#8)) = loByte (s.pc - 1#16) :=
  s.pushWord_peek_low _ hm h

theorem State.callSubroutine_bus_calls (s : State) (w : Addr) : (s.callSubroutine w).bus.calls =
    .write (stackAddr (s.sp - 1#8)) (loByte (s.pc - 1#16)) ::
      .write (stackAddr s.sp) (hiByte (s.pc - 1#16)) :: s.bus.calls :=
  s.pushWord_bus_calls _

theorem State.callSubroutine_regs (s : State) (w : Addr) :
    ((s.setSp (s.sp - 2#8)).setPc w).SameRegisters (s.callSubroutine w) := by
  constructor <;> simp [State.callSubroutine]

end Machine

/-- Settles O37: the ordinary call pushes onto what the hook left. -/
theorem jsrOrdinaryCall : Obligations.JsrOrdinaryCall := by
  unfold Obligations.JsrOrdinaryCall
  intro s w hm hanswer hhigh hlow h
  have hfall : s.bus.nextReply.answer.result = .fallthrough := hanswer ▸ HookAnswer.result_zero
  have hwf : h.bus.mem.wf = true := s.callHook_wf _ _ hm
  have regs := h.callSubroutine_regs w
  rw [← hiByte_eq_ofNat, ← loByte_eq_ofNat]
  refine ⟨_, exec_jsr_of_fallthrough w hfall, regs.pc, regs.sp, regs.a, regs.x, regs.y, regs.p, ?_, ?_,
    h.callSubroutine_sameMemoryExcept w, h.callSubroutine_bus_calls w⟩
  · exact (congrArg BitVec.toNat (State.callSubroutine_peek_high w hwf hhigh)).trans (hiByte_toNat _)
  · exact (congrArg BitVec.toNat (State.callSubroutine_peek_low w hwf hlow)).trans (loByte_toNat _)

/-- Settles O38: a nonzero answer is an address to resume at. -/
theorem jsrAbsorbedByTheHook : Obligations.JsrAbsorbedByTheHook := by
  unfold Obligations.JsrAbsorbedByTheHook
  intro s w r hanswer hr
  have hresume : s.bus.nextReply.answer.result = .resume r := hanswer ▸ HookAnswer.result_value hr
  rw [exec_jsr_of_resume w hresume]
  rfl

/-- Settles O39: the word pulled, plus 1. -/
theorem rtsResult : Obligations.RtsResult := by
  unfold Obligations.RtsResult
  intro s hlow hhigh
  rw [BitVec.ofNat_add, ← word_eq_ofNat]
  change execRts s = _
  rw [execRts, s.pullWord_plain_eq hlow hhigh]
  rfl

/-- Settles O40: RTS (O39) finds S two below where JSR (O37) had it, and there the word that JSR pushed, which is PC - 1. -/
theorem jsrThenRtsReturns : Obligations.JsrThenRtsReturns := by
  unfold Obligations.JsrThenRtsReturns
  intro s w hm hreply hhigh hlow
  obtain ⟨t, hjsr, hpc, hsp, ha, hx, hy, hp, hpushedHigh, hpushedLow, -, -⟩ :=
    jsrOrdinaryCall s w hm (congrArg HookReply.answer hreply) hhigh hlow
  obtain ⟨hmode, hstatus, hparams⟩ := exec_mode_status_params hjsr
  have hmapped (x : Addr) : t.bus.isMapped x = s.bus.isMapped x :=
    State.isMapped_of_mapped (exec_mapped_and_wf hjsr).1 x
  have hsp1 : t.sp + 1#8 = s.sp - 1#8 := by rw [hsp]; bv_omega
  have hsp2 : t.sp + 2#8 = s.sp := by rw [hsp, BitVec.sub_add_cancel]
  have hrts := rtsResult t (by rw [hsp1, hmapped, hlow]) (by rw [hsp2, hmapped, hhigh])
  have hreturn : BitVec.ofNat 16 ((s.pc - 1#16).toNat / 256 * 256 + (s.pc - 1#16).toNat % 256 + 1) = s.pc := by
    rw [Nat.div_add_mod', BitVec.ofNat_add, BitVec.ofNat_toNat, BitVec.setWidth_eq, BitVec.sub_add_cancel]
  rw [hsp1, hsp2, hpushedHigh, hpushedLow, hreturn] at hrts
  have hframe := exec_jsr_sameMemoryExcept (congrArg HookReply.writes hreply) hjsr
  exact ⟨t, _, hjsr, hpc, hrts, ⟨ha, hx, hy, rfl, rfl, hp, hmode, hstatus, hparams⟩, hframe⟩

end Sys2Proof
end

/-! ## BRK and RTI (45 R192, R193) -/

section
namespace Sys2Proof

open Sys2Proof.Machine

namespace Machine

variable {s : State}

/-- The state in which the two reads of the IRQ vector leave a host that maps neither byte (20 R41). -/
def State.afterVectorRead (s : State) : State :=
  { s with bus := { s.bus with calls := .read 0xFFFF#16 :: .read 0xFFFE#16 :: s.bus.calls } }

theorem State.read16_irq_plain (hlow : s.bus.isMapped 0xFFFE#16 = false) (hhigh : s.bus.isMapped 0xFFFF#16 = false) :
    s.read16 Vector.irq.addr = (word (s.peek 0xFFFF#16) (s.peek 0xFFFE#16), s.afterVectorRead) :=
  State.read16_plain_eq hlow hhigh

theorem State.afterVectorRead_sameRegisters (s : State) : s.SameRegisters s.afterVectorRead := by
  constructor <;> rfl

/-- BRK where it does not consult the hook. -/
theorem exec_brk_of_no_hook {vec : Addr} {u : State} (hread : s.read16 Vector.irq.addr = (vec, u))
    (hskip : vec ≠ 0#16 ∨ s.params.brkZeroHook = false) :
    exec .brk s = .next ((u.breakTo vec (s.pc - 1#16 + 2#16)).charge 0x00#8 false false) := by
  change execBrk s = _
  have hno : ¬(vec = 0#16 ∧ s.params.brkZeroHook = true) := by
    rintro ⟨hzero, hparam⟩
    obtain hvec | hoff := hskip
    · exact hvec hzero
    · cases hparam.symm.trans hoff
  simp only [execBrk, hread, if_neg hno]

theorem exec_brk_of_resume {a : Addr} {u : State} (hread : s.read16 Vector.irq.addr = (0#16, u))
    (hparam : s.params.brkZeroHook = true) (h : s.bus.nextReply.answer.result = .resume a) :
    exec .brk s = .next (((u.callHook 0#16 (s.pc - 1#16)).2.setPc a).charge 0x00#8 false false) := by
  change execBrk s = _
  rw [← s.read16_nextReply Vector.irq.addr, hread] at h
  simp only [execBrk, hread, hparam, and_self, if_true, State.callHook_result, h]

theorem exec_brk_of_fallthrough {u : State} (hread : s.read16 Vector.irq.addr = (0#16, u))
    (hparam : s.params.brkZeroHook = true) (h : s.bus.nextReply.answer.result = .fallthrough) :
    exec .brk s = .next (((u.callHook 0#16 (s.pc - 1#16)).2.breakTo 0#16 (s.pc - 1#16 + 2#16)).charge 0x00#8
      false false) := by
  change execBrk s = _
  rw [← s.read16_nextReply Vector.irq.addr, hread] at h
  simp only [execBrk, hread, hparam, and_self, if_true, State.callHook_result, h]

theorem State.breakTo_bus_calls (s : State) (vec ret : Addr) : (s.breakTo vec ret).bus.calls =
    .write (stackAddr (s.sp - 2#8)) (s.p.toByte ||| 0x30#8) :: .write (stackAddr (s.sp - 1#8)) (loByte ret) ::
      .write (stackAddr s.sp) (hiByte ret) :: s.bus.calls := by
  rw [← Flags.toByteWith_true]
  exact s.takeException_bus_calls ret true

/-- The return address lies on the stack after the entry. -/
theorem State.breakTo_return (vec ret : Addr) (hm : s.bus.mem.wf = true)
    (h0 : s.bus.isMapped (stackAddr s.sp) = false) (h1 : s.bus.isMapped (stackAddr (s.sp - 1#8)) = false) :
    word ((s.breakTo vec ret).peek (stackAddr s.sp)) ((s.breakTo vec ret).peek (stackAddr (s.sp - 1#8))) = ret := by
  have hhigh : (s.breakTo vec ret).peek (stackAddr s.sp) = hiByte ret := s.takeException_peek_high ret true hm h0
  have hlow : (s.breakTo vec ret).peek (stackAddr (s.sp - 1#8)) = loByte ret := s.takeException_peek_low ret true hm h1
  rw [hhigh, hlow, word_hiByte_loByte]

/-- P lies below the return address, with bits 4 and 5 set. -/
theorem State.breakTo_status (vec ret : Addr) (hm : s.bus.mem.wf = true)
    (h2 : s.bus.isMapped (stackAddr (s.sp - 2#8)) = false) :
    (s.breakTo vec ret).peek (stackAddr (s.sp - 2#8)) = s.p.toByte ||| 0x30#8 := by
  rw [← Flags.toByteWith_true]
  exact s.takeException_peek_status ret true hm h2

theorem State.returnFromException_pc_plain (h2 : s.bus.isMapped (stackAddr (s.sp + 2#8)) = false)
    (h3 : s.bus.isMapped (stackAddr (s.sp + 3#8)) = false) :
    s.returnFromException.pc = word (s.peek (stackAddr (s.sp + 3#8))) (s.peek (stackAddr (s.sp + 2#8))) := by
  have hsp1 : s.pullFlags.sp + 1#8 = s.sp + 2#8 := by rw [State.pullFlags_sp, BitVec.add_assoc]; rfl
  have hsp2 : s.pullFlags.sp + 2#8 = s.sp + 3#8 := by rw [State.pullFlags_sp, BitVec.add_assoc]; rfl
  have hword := s.pullFlags.pullWord_plain_eq (by rw [hsp1, State.pullFlags_isMapped, h2])
    (by rw [hsp2, State.pullFlags_isMapped, h3])
  rw [State.returnFromException, hword, hsp1, hsp2, State.pullFlags_peek, State.pullFlags_peek]
  rfl

theorem State.returnFromException_p_plain (h1 : s.bus.isMapped (stackAddr (s.sp + 1#8)) = false) :
    ∃ b4, s.returnFromException.p = Flags.ofByte b4 (s.peek (stackAddr (s.sp + 1#8))) := by
  rw [State.returnFromException_p, State.pullFlags_p, s.pull_plain h1]
  exact ⟨_, rfl⟩

end Machine

/-- Settles O41: the vector reads leave registers and memory, so the entry pushes what was there before them. -/
theorem brkOrdinaryEntry : Obligations.BrkOrdinaryEntry := by
  unfold Obligations.BrkOrdinaryEntry
  intro s hm hvecLow hvecHigh h0 h1 h2 vec hskip
  have hread : s.read16 Vector.irq.addr = (vec, s.afterVectorRead) := State.read16_irq_plain hvecLow hvecHigh
  have regs := State.breakTo_regs (op := 0x00#8) s.afterVectorRead_sameRegisters vec (s.pc - 1#16 + 2#16) false
  have hreturn := State.breakTo_return (s := s.afterVectorRead) vec (s.pc - 1#16 + 2#16) hm h0 h1
  have hstatus := State.breakTo_status (s := s.afterVectorRead) vec (s.pc - 1#16 + 2#16) hm h2
  have hframe := s.afterVectorRead.breakTo_sameMemoryExcept vec (s.pc - 1#16 + 2#16)
  have hkeeps := s.afterVectorRead.breakTo_keeps vec (s.pc - 1#16 + 2#16)
  exact ⟨_, exec_brk_of_no_hook hread hskip, regs.pc, regs.sp, regs.p, regs.a, regs.x, regs.y, hreturn, hstatus, hframe,
    hkeeps.hooks⟩

/-- Settles O42: the zero vector is read before the call of the hook, and the entry pushes after it. -/
theorem brkThroughTheHook : Obligations.BrkThroughTheHook := by
  unfold Obligations.BrkThroughTheHook
  intro s hvecLow hvecHigh hzero hparam
  have hread : s.read16 Vector.irq.addr = (0#16, s.afterVectorRead) := hzero ▸ State.read16_irq_plain hvecLow hvecHigh
  refine ⟨fun r hanswer hr => ?_, fun hanswer => ?_⟩
  · rw [exec_brk_of_resume hread hparam (hanswer ▸ HookAnswer.result_value hr), State.afterVectorRead]
    rfl
  · have hcalled := s.afterVectorRead_sameRegisters.trans (State.callHook_sameRegisters _ 0#16 (s.pc - 1#16))
    have regs := State.breakTo_regs (op := 0x00#8) hcalled 0#16 (s.pc - 1#16 + 2#16) false
    have hkeeps := (s.afterVectorRead.callHook 0#16 (s.pc - 1#16)).2.breakTo_keeps 0#16 (s.pc - 1#16 + 2#16)
    have hcalls := (s.afterVectorRead.callHook 0#16 (s.pc - 1#16)).2.breakTo_bus_calls 0#16 (s.pc - 1#16 + 2#16)
    have hreturn : s.pc - 1#16 + 2#16 = s.pc + 1#16 := by bv_omega
    rw [← hreturn]
    exact ⟨_, exec_brk_of_fallthrough hread hparam (hanswer ▸ HookAnswer.result_zero), regs.pc, regs.sp, regs.p, regs.a,
      regs.x, regs.y, hkeeps.hooks, hcalls⟩

/-- Settles O43: P comes from the first byte pulled, and PC from the two after it. -/
theorem rtiResult : Obligations.RtiResult := by
  unfold Obligations.RtiResult
  intro s h1 h2 h3 p
  have hpc := State.returnFromException_pc_plain h2 h3
  obtain ⟨b4, hp⟩ := State.returnFromException_p_plain h1
  refine ⟨_, (exec_rti s).trans (onImplied_eq ..), ?_⟩
  rw [State.charge_p, hp]
  exact ⟨rfl, rfl, rfl, rfl, rfl, rfl, Flags.toByteWith_bit5 _ _, hpc, s.returnFromException_sp, s.returnFromException_a,
    s.returnFromException_x, s.returnFromException_y, State.peek_congr s.returnFromException_bus_mem⟩

end Sys2Proof
end

/-! ## The stack and flag instructions (46 R200-R211) -/

section
namespace Sys2Proof

namespace Machine

variable {s : State} {op : Byte}

/-- What a push leaves, on every host: S one lower, one write at the stack address, nothing else (00 R11, 10 R26). -/
theorem State.push_effect (hm : s.bus.mem.wf = true) (v : Byte) :
    let t := s.push v
    t.sp = s.sp - 1#8 ∧ t.a = s.a ∧ t.x = s.x ∧ t.y = s.y ∧ t.p = s.p ∧ t.pc = s.pc ∧
      t.bus.calls = .write (stackAddr s.sp) v :: s.bus.calls ∧ s.SameMemoryExcept [stackAddr s.sp] t ∧
      (s.bus.isMapped (stackAddr s.sp) = false → t.peek (stackAddr s.sp) = v) :=
  ⟨s.push_sp v, s.push_a v, s.push_x v, s.push_y v, s.push_p v, s.push_pc v, s.push_bus_calls v,
    s.push_sameMemoryExcept v, fun hplain => s.push_peek_same hplain hm v⟩

theorem onImplied_setP_eq (f : Flags → Flags) (hcost : cyclesOf op false false = 2) :
    onImplied op (fun t => t.setP (f t.p)) s = .next { s with p := f s.p, ticks := 2 } := by
  rw [onImplied_eq, State.charge, hcost]
  rfl

theorem onImplied_id_eq (hcost : cyclesOf op false false = 2) :
    onImplied op (fun t => t) s = .next { s with ticks := 2 } := by
  rw [onImplied_eq, State.charge, hcost]
  rfl

end Machine

open Sys2Proof.Machine

/-- Settles O44: both are one push, of A and of P with bits 4 and 5 set. -/
theorem pushInstructionResult : Obligations.PushInstructionResult := by
  unfold Obligations.PushInstructionResult
  intro s hm
  rw [← Flags.toByteWith_true]
  exact ⟨⟨_, (exec_pha s).trans (onImplied_eq ..), State.push_effect hm s.a⟩,
    ⟨_, (exec_php s).trans (onImplied_eq ..), State.push_effect hm (s.p.toByteWith true)⟩⟩

/-- Settles O45: PLA passes the pulled byte through the alu, and PLP takes P from it. -/
theorem pullInstructionResult : Obligations.PullInstructionResult := by
  unfold Obligations.PullInstructionResult
  intro s hplain v
  constructor
  case left =>
    rw [exec_pla, onImplied_eq, s.pull_plain_eq hplain, State.accOp, alu_pass, State.charge, cyclesOf_pla]
    rfl
  case right =>
    refine ⟨_, (exec_plp s).trans (onImplied_eq ..), ?_⟩
    rw [State.charge_p, State.pullFlags_p, s.pull_plain hplain]
    exact ⟨rfl, rfl, rfl, rfl, rfl, rfl, Flags.toByteWith_bit5 _ _, s.pullFlags_sp, s.pullFlags_a, s.pullFlags_x,
      s.pullFlags_y, s.pullFlags_pc, State.peek_congr s.pullFlags_bus_mem⟩

/-- Settles O46: each flag instruction is one update of P, and NOP is none. -/
theorem flagInstructionResult : Obligations.FlagInstructionResult := by
  unfold Obligations.FlagInstructionResult
  intro s
  refine ⟨?clc, ?cld, ?cli, ?clv, ?sec, ?sed, ?sei, ?nop⟩
  case clc => exact onImplied_setP_eq (fun p => { p with c := false }) (cyclesOf_clc ..)
  case cld => exact onImplied_setP_eq (fun p => { p with d := false }) (cyclesOf_cld ..)
  case cli => exact onImplied_setP_eq (fun p => { p with i := false }) (cyclesOf_cli ..)
  case clv => exact onImplied_setP_eq (fun p => { p with v := false }) (cyclesOf_clv ..)
  case sec => exact onImplied_setP_eq (fun p => { p with c := true }) (cyclesOf_sec ..)
  case sed => exact onImplied_setP_eq (fun p => { p with d := true }) (cyclesOf_sed ..)
  case sei => exact onImplied_setP_eq (fun p => { p with i := true }) (cyclesOf_sei ..)
  case nop => exact onImplied_id_eq (cyclesOf_nop ..)

end Sys2Proof
end

/-! ## The entry of an interrupt (60 R242-R246) -/

section
namespace Sys2Proof

open Sys2Proof.Machine

namespace Machine

variable {s : State} {v : Vector}

/-- The stack lies in page 1 (10 R26). -/
theorem ne_stackAddr_of_le {x : Addr} (h : 512 ≤ x.toNat) (sp : Byte) : x ≠ stackAddr sp := by
  rintro rfl
  rw [stackAddr_toNat] at h
  have := sp.isLt
  omega

theorem Vector.addr_le (v : Vector) : 512 ≤ v.addr.toNat ∧ 512 ≤ (v.addr + 1#16).toNat := by
  cases v <;> decide

theorem State.takeException_peek_of_le {x : Addr} (h : 512 ≤ x.toNat) (ret : Addr) (b4 : Bool) :
    (s.takeException ret b4).peek x = s.peek x :=
  s.takeException_peek_other ret b4 (ne_stackAddr_of_le h _) (ne_stackAddr_of_le h _) (ne_stackAddr_of_le h _)

theorem State.enter_isMapped (s : State) (v : Vector) (x : Addr) : (s.enter v).bus.isMapped x = s.bus.isMapped x :=
  State.isMapped_of_mapped (s.enter_bus_mapped v) x

theorem State.enter_peek (s : State) (v : Vector) (x : Addr) :
    (s.enter v).peek x = (s.takeException s.pc false).peek x :=
  State.peek_congr (s.enter_mem v) x

theorem State.enter_sameMemoryExcept (s : State) (v : Vector) :
    s.SameMemoryExcept [stackAddr s.sp, stackAddr (s.sp - 1#8), stackAddr (s.sp - 2#8)] (s.enter v) := by
  intro x hx
  simp only [List.mem_cons, List.not_mem_nil, or_false, not_or] at hx
  obtain ⟨h0, h1, h2⟩ := hx
  rw [State.enter_peek, s.takeException_peek_other _ _ h0 h1 h2]

/-- The interrupted PC lies on the stack after the entry. -/
theorem State.enter_return (hm : s.bus.mem.wf = true) (h0 : s.bus.isMapped (stackAddr s.sp) = false)
    (h1 : s.bus.isMapped (stackAddr (s.sp - 1#8)) = false) :
    word ((s.enter v).peek (stackAddr s.sp)) ((s.enter v).peek (stackAddr (s.sp - 1#8))) = s.pc := by
  rw [State.enter_peek, State.enter_peek, s.takeException_peek_high _ _ hm h0, s.takeException_peek_low _ _ hm h1,
    word_hiByte_loByte]

/-- P as it was before the entry lies below the interrupted PC, with bit 4 clear. -/
theorem State.enter_peek_status (hm : s.bus.mem.wf = true) (h2 : s.bus.isMapped (stackAddr (s.sp - 2#8)) = false) :
    (s.enter v).peek (stackAddr (s.sp - 2#8)) = s.p.toByteWith false := by
  rw [State.enter_peek, s.takeException_peek_status _ _ hm h2]

/-- The vector is read after the pushes, which are to another page. -/
theorem State.enter_pc_plain (hlow : s.bus.isMapped v.addr = false) (hhigh : s.bus.isMapped (v.addr + 1#16) = false) :
    (s.enter v).pc = word (s.peek (v.addr + 1#16)) (s.peek v.addr) := by
  obtain ⟨hleLow, hleHigh⟩ := v.addr_le
  have hread := (s.takeException s.pc false).read16_plain (by rw [State.takeException_isMapped, hlow])
    (by rw [State.takeException_isMapped, hhigh])
  rwa [State.takeException_peek_of_le hleLow, State.takeException_peek_of_le hleHigh] at hread

theorem State.enter_bus_calls (s : State) (v : Vector) : (s.enter v).bus.calls =
    .read (v.addr + 1#16) :: .read v.addr :: .write (stackAddr (s.sp - 2#8)) (s.p.toByteWith false) ::
      .write (stackAddr (s.sp - 1#8)) (loByte s.pc) :: .write (stackAddr s.sp) (hiByte s.pc) :: s.bus.calls := by
  rw [State.enter, State.setPc_bus, State.read16_bus_calls, State.takeException_bus_calls]

theorem irqCall_of_masked (hstrict : s.params.strictStack = false) (hi : s.p.i = true) : irqCall s = .next s := by
  simp only [irqCall, hstrict, hi, Bool.false_eq_true, if_false, if_true]

theorem irqCall_of_unmasked (hstrict : s.params.strictStack = false) (hi : s.p.i = false) :
    irqCall s = .next (s.enter .irq) := by
  simp only [irqCall, hstrict, hi, Bool.false_eq_true, if_false]

theorem nmiCall_of_not_strict (hstrict : s.params.strictStack = false) : nmiCall s = .next (s.enter .nmi) := by
  simp only [nmiCall, hstrict, Bool.false_eq_true, if_false]

/-- Flags with the bits of a pushed P are that P, but for bit 4 (10 R25). -/
theorem Flags.eq_of_status_bits {p q : Flags} {b4 : Bool} (hn : q.n = (p.toByteWith b4).getLsbD 7)
    (hv : q.v = (p.toByteWith b4).getLsbD 6) (hd : q.d = (p.toByteWith b4).getLsbD 3)
    (hi : q.i = (p.toByteWith b4).getLsbD 2) (hz : q.z = (p.toByteWith b4).getLsbD 1)
    (hc : q.c = (p.toByteWith b4).getLsbD 0) : { q with b := p.b } = p := by
  rw [hn, hv, hd, hi, hz, hc]
  exact Flags.ofByte_toByteWith b4 p.b p

end Machine

/-- Settles O52: irq and nmi make the same entry, each through its own vector. -/
theorem interruptEntry : Obligations.InterruptEntry := by
  unfold Obligations.InterruptEntry
  intro s hm hstrict h0 h1 h2
  rw [← Flags.toByteWith_false]
  intro entered
  have henter (v : Vector) : entered v.addr (s.enter v) :=
    ⟨s.enter_sp v, s.enter_p v, s.enter_a v, s.enter_x v, s.enter_y v, State.enter_return hm h0 h1,
      State.enter_peek_status hm h2, s.enter_sameMemoryExcept v, State.enter_pc_plain, s.enter_ticks v, s.enter_mode v,
      s.enter_status v, s.enter_bus_hooks v, s.enter_bus_calls v⟩
  exact ⟨irqCall_of_masked hstrict, fun hi => ⟨_, irqCall_of_unmasked hstrict hi, henter .irq⟩,
    ⟨_, nmiCall_of_not_strict hstrict, henter .nmi⟩⟩

/-- Settles O53: RTI (O43) finds S three below where the entry (O52) had it, and there the P and the PC that the entry pushed. -/
theorem interruptThenRtiResumes : Obligations.InterruptThenRtiResumes := by
  unfold Obligations.InterruptThenRtiResumes
  intro s hm hstrict h0 h1 h2 resumed
  have hreturns (v : Vector) : ∃ u, exec .rti (s.enter v) = .next u ∧ resumed u := by
    have hsp1 : (s.enter v).sp + 1#8 = s.sp - 2#8 := by rw [State.enter_sp]; bv_omega
    have hsp2 : (s.enter v).sp + 2#8 = s.sp - 1#8 := by rw [State.enter_sp]; bv_omega
    have hsp3 : (s.enter v).sp + 3#8 = s.sp := by rw [State.enter_sp, BitVec.sub_add_cancel]
    obtain ⟨u, hrti, hn, hv, hd, hi, hz, hc, -, hpc, hsp, ha, hx, hy, hmem⟩ :=
      rtiResult (s.enter v) (by rw [hsp1, State.enter_isMapped, h2]) (by rw [hsp2, State.enter_isMapped, h1])
        (by rw [hsp3, State.enter_isMapped, h0])
    rw [hsp1, State.enter_peek_status hm h2] at hn hv hd hi hz hc
    rw [hsp2, hsp3, State.enter_return hm h0 h1] at hpc
    exact ⟨u, hrti, hpc, hsp.trans hsp3, ha.trans (s.enter_a v), hx.trans (s.enter_x v), hy.trans (s.enter_y v),
      Flags.eq_of_status_bits hn hv hd hi hz hc, fun x hx => (hmem x).trans (s.enter_sameMemoryExcept v x hx)⟩
  constructor
  case left =>
    intro hi
    obtain ⟨u, hrti, hresumed⟩ := hreturns .irq
    exact ⟨_, u, irqCall_of_unmasked hstrict hi, hrti, hresumed⟩
  case right =>
    obtain ⟨u, hrti, hresumed⟩ := hreturns .nmi
    exact ⟨_, u, nmiCall_of_not_strict hstrict, hrti, hresumed⟩

end Sys2Proof
end

/-! ## The call of reset (70 R270, 10 R33) -/

section
namespace Sys2Proof

open Sys2Proof.Machine

namespace Machine

variable {s : State}

theorem resetCall_p_i (s : State) : (resetCall s).p.i = true := by
  rw [resetCall, State.setPc_p, State.read16_p]
  rfl

theorem resetCall_bus_calls (s : State) :
    (resetCall s).bus.calls = .read 0xFFFD#16 :: .read 0xFFFC#16 :: s.bus.calls := by
  rw [resetCall, State.setPc_bus, State.read16_bus_calls]
  rfl

/-- The registers are drawn before the vector is read, and the draws leave memory and the host's mapping alone. -/
theorem resetCall_pc_plain (hlow : s.bus.isMapped 0xFFFC#16 = false) (hhigh : s.bus.isMapped 0xFFFD#16 = false) :
    (resetCall s).pc = word (s.peek 0xFFFD#16) (s.peek 0xFFFC#16) :=
  ((s.setTicks 0).setMode .reset).drawRegisters.read16_plain hlow hhigh

end Machine

/-- Settles O54: the state after reset is evaluated, its two vector bytes being blank. -/
theorem resetCallResult : Obligations.ResetCallResult := by
  unfold Obligations.ResetCallResult
  refine ⟨fun s => ?call, rfl, rfl, rfl, Flags.toByteWith_bit5 _ _, by decide⟩
  case call =>
    exact ⟨resetCall_ticks s, resetCall_mode s, resetCall_p_i s, Flags.toByteWith_bit5 _ _, resetCall_bus_calls s,
      State.peek_congr (resetCall_bus_mem s), resetCall_params s, resetCall_bus_hooks s, resetCall_pc_plain⟩

end Sys2Proof
end

/-! ## The disassembler (47 R220-R225) -/

section
namespace Sys2Proof

open Sys2Proof.Machine

theorem Descriptor.length_bounds (d : Descriptor) : 1 ≤ d.length ∧ d.length ≤ 3 := by
  unfold Descriptor.length
  cases d.mode <;> decide

namespace Machine

variable {s : State} {a : Addr} {d : Descriptor}

theorem State.readBytes_sameRegisters (n : Nat) (a : Addr) (s : State) : s.SameRegisters (s.readBytes n a).2 := by
  constructor <;> simp

theorem mnemonicText_length (m : Mnemonic) : (mnemonicText m).length = 3 := by
  cases m <;> rfl

/-- The longest operands are those of ABS,X, ABS,Y and IND. -/
theorem operandText_length_le (mode : AddrMode) (a : Addr) (b1 b2 : Byte) : (operandText mode a b1 b2).length ≤ 8 := by
  cases mode <;> simp [operandText, hexByte, hexAddr]

/-- An opcode without a descriptor is one read, and the marker (47 R223). -/
theorem disassemble_illegal (h : descriptorOf (s.busRead a).1 = none) :
    disassemble a s = ((illegalMarker, 1), (s.readBytes 1 a).2) := by
  simp only [disassemble, State.readInstruction, h, instructionText, List.getD_cons_zero]
  rfl

/-- Any other is as many reads as its row is long, and its mnemonic before an operand (47 R220-R222). -/
theorem disassemble_of_descriptor (h : descriptorOf (s.busRead a).1 = some d) : ∃ b1 b2,
    disassemble a s = ((mnemonicText d.mnemonic ++ operandText d.mode a b1 b2, d.length), (s.readBytes d.length a).2) := by
  simp only [disassemble, State.readInstruction, h, instructionText, List.getD_cons_zero]
  rw [Descriptor.length, Nat.add_comm]
  exact ⟨_, _, rfl⟩

/-- What the disassembler does on every host: reads as many as the length it answers, and a text that fits (47 R222, R224). -/
theorem disassemble_cases (s : State) (a : Addr) : ∃ text n,
    disassemble a s = ((text, n), (s.readBytes n a).2) ∧ 1 ≤ n ∧ n ≤ 3 ∧ text.length < textCapacity := by
  cases hd : descriptorOf (s.busRead a).1 with
  | none => exact ⟨_, _, disassemble_illegal hd, by decide⟩
  | some d =>
    obtain ⟨b1, b2, h⟩ := disassemble_of_descriptor hd
    obtain ⟨hpos, hle⟩ := d.length_bounds
    have hoperand := operandText_length_le d.mode a b1 b2
    refine ⟨_, _, h, hpos, hle, ?_⟩
    rw [List.length_append, mnemonicText_length, textCapacity]
    omega

end Machine

/-- Settles O55: disassemble is the reads of as many bytes as it answers. -/
theorem disassemblyOnlyReads : Obligations.DisassemblyOnlyReads := by
  unfold Obligations.DisassemblyOnlyReads
  intro s a
  obtain ⟨text, n, h, hpos, hle, htext⟩ := disassemble_cases s a
  rw [h]
  exact ⟨s.readBytes_sameRegisters n a, s.readBytes_ticks n a, State.peek_congr (s.readBytes_bus_mem n a),
    s.readBytes_bus_hooks n a, hpos, hle, htext, s.readBytes_calls n a⟩

/-- Settles O56: the decoder and the disassembler look up the same opcode byte in the same table. -/
theorem disassemblyAgreesWithDecoding : Obligations.DisassemblyAgreesWithDecoding := by
  unfold Obligations.DisassemblyAgreesWithDecoding
  intro s a h0 _ _
  have hop : (s.busRead a).1 = s.peek a := s.busRead_plain_value h0
  constructor
  case left =>
    intro i rest hdecode
    obtain ⟨d, hd, hmnemonic, -, hlength, -⟩ := decode_cases hdecode
    obtain ⟨b1, b2, h⟩ := disassemble_of_descriptor (hop.symm ▸ hd)
    rw [h, hlength, hmnemonic]
    exact ⟨rfl, List.take_left' (mnemonicText_length d.mnemonic)⟩
  case right =>
    intro hillegal
    rw [disassemble_illegal (hop.symm ▸ (descriptorOf_eq_none_iff _).2 hillegal)]
    rfl

end Sys2Proof
end
